-- ==== Sys2Proof/Word.lean ====
section
/-! DEFINITION. The widths of the block's values (spec/00_scope.md R5, R6, R8): every value that crosses a port of the
block is a parallel unsigned word whose bit 0 is the least significant (spec/20_memory.md R53). -/

namespace Sys2Proof

/-- A codeword: `WORD_W` = 64 bits (R5, R70). -/
abbrev Word := BitVec 64

/-- The 32-bit ENTRY form of a Variant (R79). -/
abbrev Entry := BitVec 32

/-- A TABLE and PRICE slot number: `W` = 11 bits (R5, R50). -/
abbrev Slot := BitVec 11

/-- An ISA version: `VER_W` = 8 bits, ordered as an unsigned number (R5, R8). -/
abbrev Version := BitVec 8

/-- A sub-variant index: `SV_W` = 8 bits (R5, R22). -/
abbrev SubIdx := BitVec 8

/-- A price in ergs: `PRICE_W` = 32 bits (R5). -/
abbrev Erg := BitVec 32

/-- A condition code: `COND_W` = 3 bits, carried as data (R5, R38, R72). -/
abbrev Cond := BitVec 3

/-- The index of a VM register: `REG_W` = 4 bits, carried as data (R5, R36, R73). -/
abbrev RegIdx := BitVec 4

/-- An immediate: `IMM_W` = 16 bits, carried as data (R5, R74). -/
abbrev Imm := BitVec 16

/-- An identifier of the descriptor ROM, compared only for equality (R20). -/
abbrev Ident := Nat

/-- `TABLE_LEN` = 2^W = 2048 slots (R5, R27). -/
abbrev tableLen : Nat := 2048

end Sys2Proof
end

