-- ==== Sys2Proof/Syntax.lean ====
section
/-! DEFINITION. The value types of spec/00_scope.md R8 and the instructions: one constructor of `Instr` per row of
spec/opcode_table.json. -/

namespace Sys2Proof

/-- The closed family set, in declaration order (R21): the constructor's position is the family's tag. -/
inductive Family where
  | invalid | nop | add | sub | mul | div | jump | context
  | shift | binop | ptr | nearCall | log | farCall | ret | uma
deriving DecidableEq, Repr

/-- Operand capability classes (R75). Code 3 names no class, so it is no value of this type. -/
inductive OpClass where
  | regOnly | regOrImm16 | full
deriving DecidableEq, Repr

/-- The source-0 modes: the pairs `(class, opt)` with `opt < n_in(class)` (R8, R76), one constructor per row of the
select table of R153. -/
inductive SrcMode where
  | regOnly          -- (RegOnly, 0)
  | regOrImmReg      -- (RegOrImm16, 0)
  | regOrImmImm      -- (RegOrImm16, 1)
  | fullReg          -- (Full, 0)
  | fullPushPop      -- (Full, 1)
  | fullOffset       -- (Full, 2)
  | fullAbs          -- (Full, 3)
  | fullImm          -- (Full, 4)
  | fullCode         -- (Full, 5)
deriving DecidableEq, Repr

/-- The destination-0 modes: the pairs `(class, opt)` with `opt < n_out(class)` (R8, R77), one constructor per row of
the select table of R154. RegOrImm16 is no legal destination class (R77). -/
inductive DstMode where
  | regOnly          -- (RegOnly, 0)
  | fullReg          -- (Full, 0)
  | fullPushPop      -- (Full, 1)
  | fullOffset       -- (Full, 2)
  | fullAbs          -- (Full, 3)
deriving DecidableEq, Repr

/-- A Variant (R8): equality is equality of all its fields. The two flags are the field `{flag1, flag0}` of R78. -/
structure Variant where
  fam   : Family
  sub   : SubIdx
  src0  : SrcMode
  dst0  : DstMode
  flag1 : Bool
  flag0 : Bool
deriving DecidableEq, Repr

/-- The canonical Invalid variant `INVALID_V` (R27). -/
def invalidV : Variant :=
  { fam := .invalid, sub := 0, src0 := .regOnly, dst0 := .regOnly, flag1 := false, flag0 := false }

/-- The fields of a codeword outside the reserved gap (R70). -/
structure Codeword where
  index   : Slot
  cond    : Cond
  src0Reg : RegIdx
  src1Reg : RegIdx
  dst0Reg : RegIdx
  dst1Reg : RegIdx
  imm0    : Imm
  imm1    : Imm
deriving DecidableEq, Repr

/-- What a requester presents at the request port: a command with its operands (R81, format REQ of the opcode table)
or a bare codeword for decoding (format CW64; log entry 5). The request word is the 4-bit command code and the 83
operand wires of the widest command, ENCODE (log entry 6). -/
inductive PortWord where
  | req (bits : BitVec 87)
  | cw  (word : Word)
deriving DecidableEq, Repr

/-- The instructions: one constructor per row of spec/opcode_table.json. The commands carry the operands of R81, the
codeword rows the fields of R70. -/
inductive Instr where
  -- the commands (R81)
  | status
  | decode (word : Word)
  | canon (word : Word)
  | encode (key : Entry) (cond : Cond) (src0Reg src1Reg dst0Reg dst1Reg : RegIdx) (imm0 imm1 : Imm)
  | lookup (key : Entry)
  | readEntry (index : Slot)
  | readPrice (index : Slot)
  | subvar (fam : BitVec 4) (sidx : SubIdx) (ver : Version)
  | readConst (sel : BitVec 1)
  -- the reserved command codes (R194): 9; A and B (low = bit 0); C to F (low = bits 1 and 0)
  | reservedCmd9 (operands : BitVec 83)
  | reservedCmdAB (low : BitVec 1) (operands : BitVec 83)
  | reservedCmdCF (low : BitVec 2) (operands : BitVec 83)
  -- the canonical codewords, by the family of the slot their index selects (R83)
  | invalid (c : Codeword)
  | nop (c : Codeword)
  | add (c : Codeword)
  | sub (c : Codeword)
  | mul (c : Codeword)
  | div (c : Codeword)
  | jump (c : Codeword)
  | context (c : Codeword)
  | shift (c : Codeword)
  | binop (c : Codeword)
  | ptr (c : Codeword)
  | nearCall (c : Codeword)
  | log (c : Codeword)
  | farCall (c : Codeword)
  | ret (c : Codeword)
  | uma (c : Codeword)
  -- the derived constants (R175): the codewords NOP_WORD and PANIC_WORD
  | nopConst
  | panicConst
  -- the non-canonical codewords (R85 (a)): gap bit 11 set (bit 12 either way); gap bit 12 alone
  | noncanonicalGap11 (c : Codeword) (gap12 : BitVec 1)
  | noncanonicalGap12 (c : Codeword)
deriving DecidableEq, Repr

/-- What reading a bare codeword as a row of the opcode table depends on (R83, R175): whether the tables are built,
and, if so, TABLE and the two derived constants. -/
structure CwContext where
  ready     : Bool
  table     : List Variant
  nopWord   : Word
  panicWord : Word
deriving DecidableEq, Repr

end Sys2Proof
end

