-- ==== Sys2Proof/Config.lean ====
section
/-! DEFINITION. What an implementation fixes (spec/00_scope.md R5): the descriptor ROM CAPS, the version registry, the
code of the always-true condition, PANIC_SUB; and the one free value of the model. The block's configuration is plain
data of the state, so that every statement about all states is a statement about every configuration. -/

namespace Sys2Proof

/-- The record of one sub-variant (R20). -/
structure SubDesc where
  subName      : Ident
  subMin       : Version
  kernel       : Bool
  staticOk     : Bool
  priceFormula : Erg
  floor        : Erg
deriving DecidableEq, Repr, Inhabited

/-- The operand classes of a family at one version of the registry (R20, D5). -/
structure ClassesAt where
  ver : Version
  src : OpClass
  dst : OpClass
deriving DecidableEq, Repr

/-- One family descriptor (R20). `n_subs` is the length of `subs`. The class pair at a version is the one `classes`
lists for it, and `(srcBase, dstBase)` at every other version: a total table of class pairs as plain data. `nFlags`
and `nImm` are 0 to 2 by their type (R25 (b)). -/
structure Descriptor where
  name    : Ident
  famMin  : Version
  subs    : List SubDesc
  srcBase : OpClass
  dstBase : OpClass
  classes : List ClassesAt
  nFlags  : Fin 3
  nImm    : Fin 3
deriving DecidableEq, Repr

/-- CAPS: one descriptor per family (R20, R21). -/
structure Caps where
  invalid  : Descriptor
  nop      : Descriptor
  add      : Descriptor
  sub      : Descriptor
  mul      : Descriptor
  div      : Descriptor
  jump     : Descriptor
  context  : Descriptor
  shift    : Descriptor
  binop    : Descriptor
  ptr      : Descriptor
  nearCall : Descriptor
  log      : Descriptor
  farCall  : Descriptor
  ret      : Descriptor
  uma      : Descriptor
deriving DecidableEq, Repr

/-- The configuration constants of the block (R5, R20, R26): CAPS, VERSIONS, COND_ALWAYS and PANIC_SUB. CFG_VERSION is
an input (R26), so it is a field of the state. -/
structure Configuration where
  caps       : Caps
  versions   : List Version
  condAlways : Cond
  panicSub   : SubIdx
deriving DecidableEq, Repr

/-- FREE VALUE (log entry 3). The attributes of a sub-variant that the ROM does not hold (`s >= n_subs(f)`): the spec
gives them no value. No slot of a built table names such a sub-variant. -/
opaque Config.absentSub (f : Family) (s : SubIdx) : SubDesc

end Sys2Proof
end

