-- ==== Sys2Proof/Machine/Operands.lean ====
section
/-! DEFINITION. Operand classes, modes and their codes, the ENTRY form of a Variant, and the select codes of the
mode multiplexer (spec/30_encoding.md R75 to R80, spec/42_decode.md R153, R154). -/

namespace Sys2Proof

/-- The families by ascending tag: the declaration order of R100. -/
def Family.all : List Family :=
  [.invalid, .nop, .add, .sub, .mul, .div, .jump, .context,
   .shift, .binop, .ptr, .nearCall, .log, .farCall, .ret, .uma]

/-- The tag of a family (R21). -/
def Family.tag : Family → BitVec 4
  | .invalid => 0 | .nop => 1 | .add => 2 | .sub => 3
  | .mul => 4 | .div => 5 | .jump => 6 | .context => 7
  | .shift => 8 | .binop => 9 | .ptr => 10 | .nearCall => 11
  | .log => 12 | .farCall => 13 | .ret => 14 | .uma => 15

/-- The family a tag names; every 4-bit tag names one (R54). -/
def Family.ofTag (t : BitVec 4) : Family :=
  match t.toNat with
  | 0 => .invalid | 1 => .nop | 2 => .add | 3 => .sub
  | 4 => .mul | 5 => .div | 6 => .jump | 7 => .context
  | 8 => .shift | 9 => .binop | 10 => .ptr | 11 => .nearCall
  | 12 => .log | 13 => .farCall | 14 => .ret | _ => .uma

/-- `n_in(class)` (R76). -/
def OpClass.nIn : OpClass → Nat
  | .regOnly => 1 | .regOrImm16 => 2 | .full => 6

/-- `n_out(class)` (R77). RegOrImm16 is no legal destination class and has no output option: VALIDATE ends the build
before a count or an option of it is used (R122, log entry 9). -/
def OpClass.nOut : OpClass → Nat
  | .regOnly => 1 | .regOrImm16 => 0 | .full => 4

/-- The source modes of a class in option order (R76). -/
def OpClass.srcModes : OpClass → List SrcMode
  | .regOnly => [.regOnly]
  | .regOrImm16 => [.regOrImmReg, .regOrImmImm]
  | .full => [.fullReg, .fullPushPop, .fullOffset, .fullAbs, .fullImm, .fullCode]

/-- The destination modes of a class in option order (R77). -/
def OpClass.dstModes : OpClass → List DstMode
  | .regOnly => [.regOnly]
  | .regOrImm16 => []
  | .full => [.fullReg, .fullPushPop, .fullOffset, .fullAbs]

/-- Source option 0, the register option, of a class (R76, R175). -/
def OpClass.srcFirst : OpClass → SrcMode
  | .regOnly => .regOnly | .regOrImm16 => .regOrImmReg | .full => .fullReg

/-- Destination option 0 of a class (R77, R175); none for RegOrImm16, which is no destination class. -/
def OpClass.dstFirst : OpClass → Option DstMode
  | .regOnly => some .regOnly | .regOrImm16 => none | .full => some .fullReg

/-- The class code of a source mode (R75). -/
def SrcMode.classCode : SrcMode → BitVec 2
  | .regOnly => 0
  | .regOrImmReg => 1 | .regOrImmImm => 1
  | .fullReg => 2 | .fullPushPop => 2 | .fullOffset => 2 | .fullAbs => 2 | .fullImm => 2 | .fullCode => 2

/-- The option code of a source mode (R76). -/
def SrcMode.optCode : SrcMode → BitVec 3
  | .regOnly => 0
  | .regOrImmReg => 0 | .regOrImmImm => 1
  | .fullReg => 0 | .fullPushPop => 1 | .fullOffset => 2 | .fullAbs => 3 | .fullImm => 4 | .fullCode => 5

/-- The source mode a pair of codes names, none where it names no mode (R76, R85 (c)). -/
def SrcMode.ofCodes (cls : BitVec 2) (opt : BitVec 3) : Option SrcMode :=
  match cls.toNat, opt.toNat with
  | 0, 0 => some .regOnly
  | 1, 0 => some .regOrImmReg
  | 1, 1 => some .regOrImmImm
  | 2, 0 => some .fullReg
  | 2, 1 => some .fullPushPop
  | 2, 2 => some .fullOffset
  | 2, 3 => some .fullAbs
  | 2, 4 => some .fullImm
  | 2, 5 => some .fullCode
  | _, _ => none

/-- The class code of a destination mode (R75). -/
def DstMode.classCode : DstMode → BitVec 2
  | .regOnly => 0
  | .fullReg => 2 | .fullPushPop => 2 | .fullOffset => 2 | .fullAbs => 2

/-- The option code of a destination mode (R77). -/
def DstMode.optCode : DstMode → BitVec 3
  | .regOnly => 0
  | .fullReg => 0 | .fullPushPop => 1 | .fullOffset => 2 | .fullAbs => 3

/-- The destination mode a pair of codes names, none where it names no mode (R77, R85 (c)). -/
def DstMode.ofCodes (cls : BitVec 2) (opt : BitVec 3) : Option DstMode :=
  match cls.toNat, opt.toNat with
  | 0, 0 => some .regOnly
  | 2, 0 => some .fullReg
  | 2, 1 => some .fullPushPop
  | 2, 2 => some .fullOffset
  | 2, 3 => some .fullAbs
  | _, _ => none

/-- `SRC_SEL` (R80, R153): where the interpreter takes source operand 0 from. -/
def srcSel : SrcMode → BitVec 3
  | .regOnly => 0
  | .regOrImmReg => 0
  | .regOrImmImm => 1
  | .fullReg => 0
  | .fullPushPop => 2
  | .fullOffset => 3
  | .fullAbs => 4
  | .fullImm => 1
  | .fullCode => 5

/-- `DST_SEL` (R80, R154): where the interpreter puts destination operand 0. -/
def dstSel : DstMode → BitVec 2
  | .regOnly => 0
  | .fullReg => 0
  | .fullPushPop => 1
  | .fullOffset => 2
  | .fullAbs => 3

/-- `ENTRY(v)` (R79), reserved bits [31:24] zero. -/
def Variant.toEntry (v : Variant) : Entry :=
  0#8 ++ BitVec.ofBool v.flag1 ++ BitVec.ofBool v.flag0 ++ v.dst0.optCode ++ v.dst0.classCode
    ++ v.src0.optCode ++ v.src0.classCode ++ v.sub ++ v.fam.tag

/-- `VARIANT(key[23:0])` (R79, R171): bits [31:24] are ignored; none where a class or option code names no mode, a key
that equals no TABLE entry (R85 (c)). -/
def Variant.ofEntry (e : Entry) : Option Variant :=
  match SrcMode.ofCodes (e.extractLsb' 12 2) (e.extractLsb' 14 3),
        DstMode.ofCodes (e.extractLsb' 17 2) (e.extractLsb' 19 3) with
  | some src, some dst =>
    some { fam := Family.ofTag (e.extractLsb' 0 4), sub := e.extractLsb' 4 8, src0 := src, dst0 := dst,
           flag1 := e.getLsbD 23, flag0 := e.getLsbD 22 }
  | _, _ => none

end Sys2Proof
end

