-- ==== Sys2Proof/Machine/Descriptors.lean ====
section
/-! DEFINITION. Reading the descriptor ROM (spec/10_state.md R20 to R25, spec/40_descriptors.md R100 to R103) and the
price of a Variant (spec/44_price_status.md R190, R191). -/

namespace Sys2Proof

/-- `CAPS[f]` (R7, R20). -/
def Caps.get (c : Caps) : Family → Descriptor
  | .invalid => c.invalid | .nop => c.nop | .add => c.add | .sub => c.sub
  | .mul => c.mul | .div => c.div | .jump => c.jump | .context => c.context
  | .shift => c.shift | .binop => c.binop | .ptr => c.ptr | .nearCall => c.nearCall
  | .log => c.log | .farCall => c.farCall | .ret => c.ret | .uma => c.uma

/-- The record of sub-variant `s`, none where `s >= n_subs(f)` (R22, R52). -/
def Descriptor.sub? (d : Descriptor) (s : SubIdx) : Option SubDesc := d.subs[s.toNat]?

/-- `src_class(f, v)` (R20). -/
def Descriptor.srcClass (d : Descriptor) (v : Version) : OpClass :=
  match d.classes.find? (fun c => c.ver == v) with
  | some c => c.src
  | none => d.srcBase

/-- `dst_class(f, v)` (R20). -/
def Descriptor.dstClass (d : Descriptor) (v : Version) : OpClass :=
  match d.classes.find? (fun c => c.ver == v) with
  | some c => c.dst
  | none => d.dstBase

/-- A sub-variant record is available at `v` (R23), given its family's descriptor. -/
def Descriptor.availSub (d : Descriptor) (sd : SubDesc) (v : Version) : Bool :=
  decide (d.famMin ≤ v) && decide (sd.subMin ≤ v)

/-- Availability of `(f, s)` at `v` (R23). -/
def Caps.avail (c : Caps) (f : Family) (s : SubIdx) (v : Version) : Bool :=
  match (c.get f).sub? s with
  | some sd => (c.get f).availSub sd v
  | none => false

/-- The attributes of `(f, s)`: the ROM's record, and the free value where the ROM holds none (log entry 3). -/
def Caps.attrs (c : Caps) (f : Family) (s : SubIdx) : SubDesc :=
  ((c.get f).sub? s).getD (Config.absentSub f s)

/-- The larger of two prices. -/
def ergMax (a b : Erg) : Erg := if a ≤ b then b else a

/-- `price_of(e)` (R190): the maximum representable price for Invalid, else the formula price, not below the DDoS
floor (R191). -/
def priceOf (c : Caps) (e : Variant) : Erg :=
  if e.fam = .invalid then 0xFFFFFFFF#32
  else ergMax (c.attrs e.fam e.sub).priceFormula (c.attrs e.fam e.sub).floor

end Sys2Proof
end

