-- ==== Sys2Proof/Machine/Cam.lean ====
section
/-! DEFINITION. The reverse-lookup CAM, the response codes and the encode core (spec/43_encode_cam.md R170, R173 to
R175; spec/30_encoding.md R82). -/

namespace Sys2Proof

/-- `TABLE[i]` (R7, R27). Every slot number of 11 bits names an existing slot of a table of 2048 (R54). -/
def readTable (t : List Variant) (i : Slot) : Variant := t.getD i.toNat invalidV

/-- `CAM(key)` (R170): the lowest slot of 0..2047 that holds `key`, none on a miss. The CAM is a function of TABLE, as
R30 allows. -/
def cam (t : List Variant) (key : Variant) : Option Slot :=
  ((t.take tableLen).findIdx? (fun v => v == key)).map (BitVec.ofNat 11)

/-- Response status codes (R82). Code 7 is never produced. -/
inductive RespCode where
  | ok | noncanonical | lookupMiss | range | notFound | failed | badCmd
deriving DecidableEq, Repr

/-- The 3-bit code of a response status (R82). -/
def RespCode.code : RespCode → BitVec 3
  | .ok => 0 | .noncanonical => 1 | .lookupMiss => 2 | .range => 3
  | .notFound => 4 | .failed => 5 | .badCmd => 6

/-- A DecodedInstruction (R8) with fields of unbounded width, the form on which the range check of R173 and R174 says
something. -/
structure DecodedInstr where
  variant : Variant
  cond    : Nat
  src0Reg : Nat
  src1Reg : Nat
  dst0Reg : Nat
  dst1Reg : Nat
  imm0    : Nat
  imm1    : Nat
deriving DecidableEq, Repr

/-- Every field fits its place in the codeword (R173). -/
def DecodedInstr.inRange (x : DecodedInstr) : Bool :=
  decide (x.cond < 2 ^ 3) && decide (x.src0Reg < 2 ^ 4) && decide (x.src1Reg < 2 ^ 4)
    && decide (x.dst0Reg < 2 ^ 4) && decide (x.dst1Reg < 2 ^ 4)
    && decide (x.imm0 < 2 ^ 16) && decide (x.imm1 < 2 ^ 16)

/-- The packing of R173: slot number and fields at their places (R70), gap bits zero. -/
def packWord (i : Slot) (x : DecodedInstr) : Word :=
  i.setWidth 64 ||| (BitVec.ofNat 64 x.cond <<< 13) ||| (BitVec.ofNat 64 x.src0Reg <<< 16)
    ||| (BitVec.ofNat 64 x.src1Reg <<< 20) ||| (BitVec.ofNat 64 x.dst0Reg <<< 24)
    ||| (BitVec.ofNat 64 x.dst1Reg <<< 28) ||| (BitVec.ofNat 64 x.imm0 <<< 32)
    ||| (BitVec.ofNat 64 x.imm1 <<< 48)

/-- `ENC_CORE` (R173): the lookup is checked before the ranges. -/
def encCore (t : List Variant) (x : DecodedInstr) : RespCode × Word :=
  match cam t x.variant with
  | none => (.lookupMiss, 0)
  | some i => if x.inRange then (.ok, packWord i x) else (.range, 0)

end Sys2Proof
end

