-- ==== Sys2Proof/Machine/Flags.lean ====
section
/-! DEFINITION. The two flag bits of a Variant (spec/30_encoding.md R78). The block has no condition flags and evaluates
no condition (spec/10_state.md R38): these are the only flags it computes. -/

namespace Sys2Proof

/-- The flag combinations of a family with `n` declared flags, in the order R125 visits them: a binary counter `k`
with `flag0 = k[0]` and `flag1 = k[1]`, an undeclared flag staying 0 (R78, D7). A pair is `(flag1, flag0)`. -/
def flagCombos (n : Fin 3) : List (Bool × Bool) :=
  (List.range (2 ^ n.val)).map fun k => (k.testBit 1, k.testBit 0)

end Sys2Proof
end

