-- ==== Sys2Proof/Machine/Synthesis.lean ====
section
/-! DEFINITION. Table synthesis (spec/41_synthesis.md R121 to R136) as functions of the configuration: the parts the
build sequencer of Machine/Build.lean runs step by step, and `build`, the whole of R121 at once. -/

namespace Sys2Proof

/-- The build faults (R211). -/
inductive BuildFault where
  /-- two family descriptors have the same name (R122) -/
  | dupFamilyName
  /-- CFG_VERSION is not in VERSIONS (R122) -/
  | unknownVersion
  /-- a destination class is RegOrImm16 (R122) -/
  | illegalDescriptor
  /-- an accumulator entry has no semantic counterpart at a later version (R127) -/
  | missingPredecessor
  /-- the accumulator's length differs from the density (R126, R129) -/
  | densityMismatch
  /-- the accumulator is empty or its entry 0 is not `INVALID_V` (R131) -/
  | slot0NotInvalid
  /-- the accumulator has more than 2048 entries (R132) -/
  | tableOverflow
  /-- NOP_INSTR or PANIC_INSTR is in no slot (R135) -/
  | derivedConstMiss
deriving DecidableEq, Repr

/-- The fault code of R211. -/
def BuildFault.code : BuildFault → BitVec 4
  | .dupFamilyName => 1 | .unknownVersion => 2 | .illegalDescriptor => 3 | .missingPredecessor => 4
  | .densityMismatch => 5 | .slot0NotInvalid => 6 | .tableOverflow => 7 | .derivedConstMiss => 8

/-- Some element occurs twice. -/
def hasDuplicate : List Ident → Bool
  | [] => false
  | x :: xs => xs.contains x || hasDuplicate xs

/-- Some family available at `v` has destination class RegOrImm16 there (R122). -/
def illegalAt (c : Caps) (v : Version) : Bool :=
  Family.all.any fun f => decide ((c.get f).famMin ≤ v) && decide ((c.get f).dstClass v = .regOrImm16)

/-- `VALIDATE` (R122): the first failing check, none if all pass. -/
def validate (cfg : Configuration) (cfgVersion : Version) : Option BuildFault :=
  if hasDuplicate (Family.all.map fun f => (cfg.caps.get f).name) then some .dupFamilyName
  else if !cfg.versions.contains cfgVersion then some .unknownVersion
  else if cfg.versions.any fun v => decide (v ≤ cfgVersion) && illegalAt cfg.caps v then some .illegalDescriptor
  else none

/-- `Density(v)` (R123): a count by formula, independent of the enumeration. -/
def density (c : Caps) (v : Version) : Nat :=
  (Family.all.map fun f =>
    ((c.get f).subs.countP fun sd => (c.get f).availSub sd v)
      * (((c.get f).srcClass v).nIn * ((c.get f).dstClass v).nOut * 2 ^ (c.get f).nFlags.val)).sum

/-- The variants of one sub-variant, in R125's order: source mode, destination mode, flag bits. -/
def enumSub (f : Family) (s : SubIdx) (cs cd : OpClass) (n : Fin 3) : List Variant :=
  cs.srcModes.flatMap fun i =>
    cd.dstModes.flatMap fun o =>
      (flagCombos n).map fun k =>
        { fam := f, sub := s, src0 := i, dst0 := o, flag1 := k.1, flag0 := k.2 }

/-- The variants of the sub-variants of a family from index `s` on, available ones only (R125). -/
def enumSubs (f : Family) (d : Descriptor) (v : Version) : Nat → List SubDesc → List Variant
  | _, [] => []
  | s, sd :: rest =>
    (if d.availSub sd v then enumSub f (BitVec.ofNat 8 s) (d.srcClass v) (d.dstClass v) d.nFlags else [])
      ++ enumSubs f d v (s + 1) rest

/-- `Enum(v)` (R125). -/
def enum (c : Caps) (v : Version) : List Variant :=
  Family.all.flatMap fun f => enumSubs f (c.get f) v 0 (c.get f).subs

/-- `sem_eq(a, b)` (R124). -/
def semEq (a b : Variant) : Bool :=
  decide (a.fam = b.fam) && decide (a.sub = b.sub) && decide (a.flag1 = b.flag1) && decide (a.flag0 = b.flag0)
    && decide (a.dst0 = b.dst0)
    && (decide (a.src0 = b.src0)
        || (decide (a.src0 = .regOnly) && decide (b.src0 = .regOrImmReg))
        || (decide (a.src0 = .regOrImmReg) && decide (b.src0 = .regOnly)))

/-- `CHECK_PREDECESSORS` (R127) passes: every accumulator entry has a semantic counterpart in the new set. -/
def predecessorsOk (acc new : List Variant) : Bool :=
  acc.all fun a => new.any fun s => semEq a s

/-- The merge of one new entry (R128): the lowest semantically equal entry is overwritten in place, else the entry is
appended. -/
def mergeOne : List Variant → Variant → List Variant
  | [], s => [s]
  | a :: rest, s => if semEq a s then s :: rest else a :: mergeOne rest s

/-- `MERGE` (R128). -/
def merge (acc new : List Variant) : List Variant := new.foldl mergeOne acc

/-- The earliest version (R121, R126). -/
def foldFirst (c : Caps) (v : Version) : Except BuildFault (List Variant) :=
  let acc := enum c v
  if acc.length = density c v then .ok acc else .error .densityMismatch

/-- The loop body of R121 for a later version `v` (R127 to R129). -/
def foldVersion (c : Caps) (acc : List Variant) (v : Version) : Except BuildFault (List Variant) :=
  let new := enum c v
  if predecessorsOk acc new then
    let acc' := merge acc new
    if acc'.length = density c v then .ok acc' else .error .densityMismatch
  else .error .missingPredecessor

/-- The loop of R121 over the later versions, up to and including CFG_VERSION (R130). -/
def foldLater (c : Caps) (cfgVersion : Version) : List Variant → List Version → Except BuildFault (List Variant)
  | acc, [] => .ok acc
  | acc, v :: vs =>
    if v ≤ cfgVersion then
      match foldVersion c acc v with
      | .ok acc' => foldLater c cfgVersion acc' vs
      | .error e => .error e
    else .ok acc

/-- What a successful build writes (R133 to R135). -/
structure Tables where
  table     : List Variant
  count     : BitVec 12
  price     : List Erg
  nopWord   : Word
  panicWord : Word
deriving DecidableEq, Repr

/-- TABLE as COMMIT writes it (R133): the accumulator, padded with `INVALID_V` to 2048 slots. -/
def padTable (acc : List Variant) : List Variant :=
  acc ++ List.replicate (tableLen - acc.length) invalidV

/-- PRICE as FILL_PRICES writes it (R134). -/
def fillPrices (c : Caps) (t : List Variant) : List Erg := t.map (priceOf c)

/-- `{variant, COND_ALWAYS, zero operands}` for a sub-variant spelled with the first option of each class and flags
clear (R175); none where the destination class has no option. -/
def derivedInstr (cfg : Configuration) (cfgVersion : Version) (f : Family) (s : SubIdx) : Option DecodedInstr :=
  match ((cfg.caps.get f).dstClass cfgVersion).dstFirst with
  | none => none
  | some d =>
    some { variant := { fam := f, sub := s, src0 := ((cfg.caps.get f).srcClass cfgVersion).srcFirst, dst0 := d,
                        flag1 := false, flag0 := false },
           cond := cfg.condAlways.toNat, src0Reg := 0, src1Reg := 0, dst0Reg := 0, dst1Reg := 0, imm0 := 0, imm1 := 0 }

/-- `NOP_INSTR` (R175). -/
def nopInstr (cfg : Configuration) (cfgVersion : Version) : Option DecodedInstr :=
  derivedInstr cfg cfgVersion .nop 0

/-- `PANIC_INSTR` (R175). -/
def panicInstr (cfg : Configuration) (cfgVersion : Version) : Option DecodedInstr :=
  derivedInstr cfg cfgVersion .ret cfg.panicSub

/-- One line of DERIVE_CONSTANTS (R135): the instruction's codeword, or DERIVED_CONST_MISS where it is in no slot. -/
def deriveWord (t : List Variant) (x : Option DecodedInstr) : Except BuildFault Word :=
  match x with
  | none => .error .derivedConstMiss
  | some x =>
    match encCore t x with
    | (.ok, w) => .ok w
    | _ => .error .derivedConstMiss

/-- The steps of R121 after the fold: the slot-0 check (R131), the overflow check (R132), COMMIT, FILL_PRICES and
DERIVE_CONSTANTS (R133 to R135), as one step that no command observes half done. On DERIVED_CONST_MISS, which R121 raises
after COMMIT, nothing is committed: what the unreadable tables then hold is the model's choice (R39, U7; log entry 18). -/
def finishBuild (cfg : Configuration) (cfgVersion : Version) (acc : List Variant) : Except BuildFault Tables :=
  if acc.head? ≠ some invalidV then .error .slot0NotInvalid
  else if acc.length > tableLen then .error .tableOverflow
  else
    let t := padTable acc
    match deriveWord t (nopInstr cfg cfgVersion) with
    | .error e => .error e
    | .ok w1 =>
      match deriveWord t (panicInstr cfg cfgVersion) with
      | .error e => .error e
      | .ok w2 =>
        .ok { table := t, count := BitVec.ofNat 12 acc.length, price := fillPrices cfg.caps t,
              nopWord := w1, panicWord := w2 }

/-- `VERSIONS[0]`, the earliest version (R26); a configuration without versions is refused (R25). -/
def earliest (cfg : Configuration) : Version := cfg.versions.headD 0

/-- The accumulator of R121 after the fold up to and including the registry version `v`, whatever the final checks of a
build at `v` would say of it (R126 to R130). -/
def accumulatorAt (cfg : Configuration) (v : Version) : Except BuildFault (List Variant) :=
  match foldFirst cfg.caps (earliest cfg) with
  | .error e => .error e
  | .ok acc => foldLater cfg.caps v acc (cfg.versions.drop 1)

/-- R121 from the loop on: the fold over the versions `vs`, then the final checks and the commit. -/
def foldAndFinish (cfg : Configuration) (cfgVersion : Version) (acc : List Variant) (vs : List Version) :
    Except BuildFault Tables :=
  match foldLater cfg.caps cfgVersion acc vs with
  | .error e => .error e
  | .ok acc' => finishBuild cfg cfgVersion acc'

/-- R121 after VALIDATE: the earliest version, then the later ones. -/
def enumerateAndFold (cfg : Configuration) (cfgVersion : Version) : Except BuildFault Tables :=
  match foldFirst cfg.caps (earliest cfg) with
  | .error e => .error e
  | .ok acc => foldAndFinish cfg cfgVersion acc (cfg.versions.drop 1)

/-- `BUILD` (R121) as a function of the configuration (R139): the first build fault, or what READY holds. -/
def build (cfg : Configuration) (cfgVersion : Version) : Except BuildFault Tables :=
  match validate cfg cfgVersion with
  | some e => .error e
  | none => enumerateAndFold cfg cfgVersion

end Sys2Proof
end

