-- ==== Sys2Proof/Machine/Toy.lean ====
section
/-! DEFINITION. The TOY configuration of spec/95_test_vectors.md section 2, the one complete configuration the spec
gives: the value State.reset names for the open parameters CAPS, VERSIONS, CFG_VERSION, COND_ALWAYS and PANIC_SUB
(spec/00_scope.md R5; log entry 1). Identifiers are numbers, since they are compared only for equality (R20). -/

namespace Sys2Proof

/-- A TOY sub-variant. -/
def toySub (name : Ident) (subMin : Version) (price floor : Erg) (kernel staticOk : Bool) : SubDesc :=
  { subName := name, subMin := subMin, kernel := kernel, staticOk := staticOk, priceFormula := price, floor := floor }

/-- A TOY family with RegOnly / RegOnly operands at every version. -/
def toyFamily (name : Ident) (famMin : Version) (subs : List SubDesc) (nFlags nImm : Fin 3) : Descriptor :=
  { name := name, famMin := famMin, subs := subs, srcBase := .regOnly, dstBase := .regOnly, classes := [],
    nFlags := nFlags, nImm := nImm }

/-- A TOY family that is not available below version 255: one placeholder sub-variant. -/
def toyAbsent (name : Ident) : Descriptor := toyFamily name 255 [toySub 0 0 0 0 false true] 0 0

/-- CAPS of TOY (95_test_vectors.md section 2). -/
def toyCaps : Caps :=
  { invalid := toyFamily 0 0 [toySub 0 0 0 0 false true] 0 0,
    nop := toyFamily 1 0 [toySub 0 0 1 0 false true] 0 0,
    add := toyFamily 2 0 [toySub 0 0 2 0 false true] 1 0,
    sub := { toyFamily 3 0 [toySub 0 0 3 0 false true] 1 1 with
             classes := [{ ver := 1, src := .regOrImm16, dst := .regOnly }] },
    mul := toyAbsent 4,
    div := toyAbsent 5,
    jump := { toyFamily 6 0 [toySub 0 0 4 0 false true] 0 1 with srcBase := .full },
    context := { toyFamily 7 0 [toySub 0 0 5 0 true true] 0 0 with dstBase := .full },
    shift := toyAbsent 8,
    binop := toyAbsent 9,
    ptr := toyAbsent 10,
    nearCall := toyAbsent 11,
    log := toyFamily 12 0 [toySub 0 0 6 0 false true, toySub 1 1 7 100 false false] 1 0,
    farCall := toyAbsent 13,
    ret := toyFamily 14 0 [toySub 0 0 8 0 false true, toySub 1 0 8 0 false true, toySub 2 0 8 0 false true] 0 0,
    uma := toyAbsent 15 }

/-- The TOY configuration: `VERSIONS = [0, 1]`, `COND_ALWAYS = 0`, `PANIC_SUB = 2`. -/
def toyConfig : Configuration :=
  { caps := toyCaps, versions := [0, 1], condAlways := 0, panicSub := 2 }

/-- TOY's `CFG_VERSION`, "1 unless a vector says otherwise". -/
def toyVersion : Version := 1

end Sys2Proof
end

