-- ==== Sys2Proof/Decode.lean ====
section
/-! DEFINITION. From the bits at the request port to an instruction (spec/30_encoding.md R70 to R74, R81, R83, R85), and
after it the encoder. There is no malformed request: every 4-bit command code has a row (R81, R194) and every 64-bit
codeword is canonical or not (R71), so decoding rejects nothing and is total. -/

namespace Sys2Proof

/-- The fields of a codeword by fixed shifts and masks (R70). -/
def cutCodeword (w : Word) : Codeword :=
  { index := w.extractLsb' 0 11, cond := w.extractLsb' 13 3,
    src0Reg := w.extractLsb' 16 4, src1Reg := w.extractLsb' 20 4,
    dst0Reg := w.extractLsb' 24 4, dst1Reg := w.extractLsb' 28 4,
    imm0 := w.extractLsb' 32 16, imm1 := w.extractLsb' 48 16 }

/-- `canonical(word)` (R71, R150): the reserved gap is zero. -/
def canonical (w : Word) : Bool := w.extractLsb' 11 2 == 0#2

/-- The request of a command code and its operand wires (R81; log entry 6). -/
def decodeReq (b : BitVec 87) : Instr :=
  match (b.extractLsb' 0 4).toNat with
  | 0 => .status
  | 1 => .decode (b.extractLsb' 4 64)
  | 2 => .canon (b.extractLsb' 4 64)
  | 3 => .encode (b.extractLsb' 4 32) (b.extractLsb' 36 3)
      (b.extractLsb' 39 4) (b.extractLsb' 43 4) (b.extractLsb' 47 4) (b.extractLsb' 51 4)
      (b.extractLsb' 55 16) (b.extractLsb' 71 16)
  | 4 => .lookup (b.extractLsb' 4 32)
  | 5 => .readEntry (b.extractLsb' 4 11)
  | 6 => .readPrice (b.extractLsb' 4 11)
  | 7 => .subvar (b.extractLsb' 4 4) (b.extractLsb' 8 8) (b.extractLsb' 16 8)
  | 8 => .readConst (b.extractLsb' 4 1)
  | 9 => .reservedCmd9 (b.extractLsb' 4 83)
  | 10 => .reservedCmdAB 0 (b.extractLsb' 4 83)
  | 11 => .reservedCmdAB 1 (b.extractLsb' 4 83)
  | 12 => .reservedCmdCF 0 (b.extractLsb' 4 83)
  | 13 => .reservedCmdCF 1 (b.extractLsb' 4 83)
  | 14 => .reservedCmdCF 2 (b.extractLsb' 4 83)
  | _ => .reservedCmdCF 3 (b.extractLsb' 4 83)

/-- The codeword row of a family (R83). -/
def familyInstr (f : Family) (c : Codeword) : Instr :=
  match f with
  | .invalid => .invalid c | .nop => .nop c | .add => .add c | .sub => .sub c
  | .mul => .mul c | .div => .div c | .jump => .jump c | .context => .context c
  | .shift => .shift c | .binop => .binop c | .ptr => .ptr c | .nearCall => .nearCall c
  | .log => .log c | .farCall => .farCall c | .ret => .ret c | .uma => .uma c

/-- The row of the opcode table that a bare codeword spells. The gap bits come first (R71, R85 (a)); then the derived
constants, the rows with the full mask (R175); then the family of the slot the index selects (R83). While the tables
are not built no slot says what a canonical word means: the word is then the operand of a DECODE request. -/
def decodeCw (ctx : CwContext) (w : Word) : Instr :=
  if w.getLsbD 11 then .noncanonicalGap11 (cutCodeword w) (w.extractLsb' 12 1)
  else if w.getLsbD 12 then .noncanonicalGap12 (cutCodeword w)
  else if !ctx.ready then .decode w
  else if w = ctx.nopWord then .nopConst
  else if w = ctx.panicWord then .panicConst
  else familyInstr (readTable ctx.table (w.extractLsb' 0 11)).fam (cutCodeword w)

/-- The instruction presented at the port. -/
def decode (ctx : CwContext) : PortWord → Instr
  | .req b => decodeReq b
  | .cw w => decodeCw ctx w

/-- A codeword of given fields and gap bits (R70). -/
def codewordBits (c : Codeword) (gap : BitVec 2) : Word :=
  c.imm1 ++ c.imm0 ++ c.dst1Reg ++ c.dst0Reg ++ c.src1Reg ++ c.src0Reg ++ c.cond ++ gap ++ c.index

/-- The canonical codeword of given fields (R70, R71). -/
def codeword (c : Codeword) : Word := codewordBits c 0

/-- A request of a command code and its operand wires, the wires a command does not use being zero (R81; log entry 6). -/
def reqBits (cmd : BitVec 4) (operands : BitVec 83) : BitVec 87 := operands ++ cmd

/-- The operand wires of ENCODE (R81; log entry 6). -/
def encodeOperands (key : Entry) (cond : Cond) (s0 s1 d0 d1 : RegIdx) (i0 i1 : Imm) : BitVec 83 :=
  i1 ++ i0 ++ d1 ++ d0 ++ s1 ++ s0 ++ cond ++ key

/-- The bits of a well-formed instruction. -/
def encode (ctx : CwContext) : Instr → PortWord
  | .status => .req (reqBits 0 0)
  | .decode w => .req (reqBits 1 (w.setWidth 83))
  | .canon w => .req (reqBits 2 (w.setWidth 83))
  | .encode key cond s0 s1 d0 d1 i0 i1 => .req (reqBits 3 (encodeOperands key cond s0 s1 d0 d1 i0 i1))
  | .lookup key => .req (reqBits 4 (key.setWidth 83))
  | .readEntry i => .req (reqBits 5 (i.setWidth 83))
  | .readPrice i => .req (reqBits 6 (i.setWidth 83))
  | .subvar f s v => .req (reqBits 7 ((v ++ s ++ f).setWidth 83))
  | .readConst sel => .req (reqBits 8 (sel.setWidth 83))
  | .reservedCmd9 ops => .req (reqBits 9 ops)
  | .reservedCmdAB low ops => .req (reqBits (0b101#3 ++ low) ops)
  | .reservedCmdCF low ops => .req (reqBits (0b11#2 ++ low) ops)
  | .invalid c => .cw (codeword c)
  | .nop c => .cw (codeword c)
  | .add c => .cw (codeword c)
  | .sub c => .cw (codeword c)
  | .mul c => .cw (codeword c)
  | .div c => .cw (codeword c)
  | .jump c => .cw (codeword c)
  | .context c => .cw (codeword c)
  | .shift c => .cw (codeword c)
  | .binop c => .cw (codeword c)
  | .ptr c => .cw (codeword c)
  | .nearCall c => .cw (codeword c)
  | .log c => .cw (codeword c)
  | .farCall c => .cw (codeword c)
  | .ret c => .cw (codeword c)
  | .uma c => .cw (codeword c)
  | .nopConst => .cw ctx.nopWord
  | .panicConst => .cw ctx.panicWord
  | .noncanonicalGap11 c gap12 => .cw (codewordBits c (gap12 ++ 1#1))
  | .noncanonicalGap12 c => .cw (codewordBits c 2)

/-- The port format of a row of the opcode table with `nbits` bits (log entry 7): the command rows have 4 bits, so at
most one byte (format REQ), the codeword rows more, at most 64 (format CW64). -/
def rowPortWord (nbits w : Nat) : Option PortWord :=
  if nbits = 0 then none
  else if nbits ≤ 8 then some (.req (BitVec.ofNat 87 w))
  else if nbits ≤ 64 then some (.cw (BitVec.ofNat 64 w))
  else none

/-- The codeword context of a block that has built its tables from a configuration. -/
def builtContext (cfg : Configuration) (cfgVersion : Version) : CwContext :=
  match build cfg cfgVersion with
  | .ok t => { ready := true, table := t.table, nopWord := t.nopWord, panicWord := t.panicWord }
  | .error _ => { ready := false, table := [], nopWord := 0, panicWord := 0 }

/-- The instruction the decoder reads from a row's bits, in the configuration State.reset names (log entries 1, 7). -/
def decodeTableWord (nbits w : Nat) : Option Instr :=
  (rowPortWord nbits w).map (decode (builtContext toyConfig toyVersion))

end Sys2Proof
end

