-- ==== Sys2Proof/WellFormed.lean ====
section
/-! DEFINITION. The premises a configuration must meet (spec/10_state.md R25) and when an instruction's operands spell
its own row of the opcode table (spec/30_encoding.md R83, spec/43_encode_cam.md R175). -/

namespace Sys2Proof

/-- VERSIONS is strictly increasing (R25 (a)). -/
def strictlyIncreasing : List Version → Bool
  | [] => true
  | [_] => true
  | a :: b :: rest => decide (a < b) && strictlyIncreasing (b :: rest)

/-- `1 <= n_subs(f) <= 2^SV_W` (R25 (b)); `n_subs(f)` is the length of the sub-variant list (R20). -/
def Descriptor.subsOk (d : Descriptor) : Bool := decide (1 ≤ d.subs.length) && decide (d.subs.length ≤ 256)

/-- The premises of R25. The bounds on flags and immediates of (b), and (c), hold by the types of Config.lean. -/
def Configuration.wf (cfg : Configuration) : Bool :=
  !cfg.versions.isEmpty && strictlyIncreasing cfg.versions
    && Family.all.all (fun f => (cfg.caps.get f).subsOk)
    && decide (cfg.panicSub.toNat < (cfg.caps.get .ret).subs.length)

/-- The codeword of `c` spells the row of family `f`: the tables are built, the slot its index selects holds `f` (R83),
and it is none of the derived constants, which have rows of their own (R175). -/
def spellsFamily (ctx : CwContext) (f : Family) (c : Codeword) : Bool :=
  ctx.ready && decide ((readTable ctx.table c.index).fam = f)
    && decide (codeword c ≠ ctx.nopWord) && decide (codeword c ≠ ctx.panicWord)

/-- The instruction's operands are ones its row admits. A command admits every operand value of its port (R174). -/
def wellFormed (ctx : CwContext) : Instr → Bool
  | .status => true
  | .decode _ => true
  | .canon _ => true
  | .encode _ _ _ _ _ _ _ _ => true
  | .lookup _ => true
  | .readEntry _ => true
  | .readPrice _ => true
  | .subvar _ _ _ => true
  | .readConst _ => true
  | .reservedCmd9 _ => true
  | .reservedCmdAB _ _ => true
  | .reservedCmdCF _ _ => true
  | .invalid c => spellsFamily ctx .invalid c
  | .nop c => spellsFamily ctx .nop c
  | .add c => spellsFamily ctx .add c
  | .sub c => spellsFamily ctx .sub c
  | .mul c => spellsFamily ctx .mul c
  | .div c => spellsFamily ctx .div c
  | .jump c => spellsFamily ctx .jump c
  | .context c => spellsFamily ctx .context c
  | .shift c => spellsFamily ctx .shift c
  | .binop c => spellsFamily ctx .binop c
  | .ptr c => spellsFamily ctx .ptr c
  | .nearCall c => spellsFamily ctx .nearCall c
  | .log c => spellsFamily ctx .log c
  | .farCall c => spellsFamily ctx .farCall c
  | .ret c => spellsFamily ctx .ret c
  | .uma c => spellsFamily ctx .uma c
  | .nopConst => ctx.ready && canonical ctx.nopWord
  | .panicConst => ctx.ready && canonical ctx.panicWord && decide (ctx.panicWord ≠ ctx.nopWord)
  | .noncanonicalGap11 _ _ => true
  | .noncanonicalGap12 _ => true

end Sys2Proof
end

