-- ==== Sys2Proof/Machine/State.lean ====
section
/-! DEFINITION. The state of the block (spec/10_state.md), what its ports carry, the reasons a step can stop, and the
state right after reset. -/

namespace Sys2Proof.Machine

open Sys2Proof

/-- The three values of the STATE register (R31). -/
inductive BlockState where
  | building | ready | failed
deriving DecidableEq, Repr

/-- The 2-bit code of STATE (R31); the value 3 is never produced. -/
def BlockState.code : BlockState → BitVec 2
  | .building => 0 | .ready => 1 | .failed => 2

/-- Where the build sequencer stands in the step order of R121: hidden state of the build (R35; log entry 8). -/
inductive BuildPhase where
  | validate   -- VALIDATE is next
  | first      -- the enumeration of the earliest version is next
  | fold       -- the registry version of index `verIdx` is next, if it is at most CFG_VERSION
  | finish     -- the final checks, COMMIT, FILL_PRICES and DERIVE_CONSTANTS are next
deriving DecidableEq, Repr

/-- The result record of DECODE (R151). -/
structure DecodeResult where
  index    : Slot
  variant  : Entry
  src0Sel  : BitVec 3
  dst0Sel  : BitVec 2
  cond     : Cond
  src0Reg  : RegIdx
  src1Reg  : RegIdx
  dst0Reg  : RegIdx
  dst1Reg  : RegIdx
  imm0     : Imm
  imm1     : Imm
  price    : Erg
  kernel   : Bool
  staticOk : Bool
  nImm     : BitVec 2
  nFlags   : BitVec 2
deriving DecidableEq, Repr

/-- The result record of SUBVAR (R104). -/
structure SubvarResult where
  sidx         : SubIdx
  subMin       : Version
  kernel       : Bool
  staticOk     : Bool
  priceFormula : Erg
  floor        : Erg
deriving DecidableEq, Repr

/-- The result records of R82, one form per command; `zero` is the all-zero result of BAD_CMD (R194). -/
inductive Result where
  | status (word : BitVec 32)
  | decode (r : DecodeResult)
  | canon (canonical : Bool)
  | word (w : Word)
  | index (i : Slot)
  | entry (e : Entry)
  | price (p : Erg)
  | subvar (r : SubvarResult)
  | zero
deriving DecidableEq, Repr

/-- One response at the response port: the request it answers, its status code and its result record (R82). The block
has no requester identifiers (R224), so the request itself says which requester the response goes to. -/
structure Answer where
  request : Instr
  resp    : RespCode
  result  : Result
deriving DecidableEq, Repr

/-- What the outside world does to the block between two of its own steps (log entry 4). -/
inductive Input where
  /-- a requester presents a request (R81) -/
  | request (p : PortWord)
  /-- the reset input is asserted (R240, R247) -/
  | assertReset
  /-- the reset input is released (R241) -/
  | releaseReset
  /-- the CFG_VERSION input is driven to a value (R26, R241) -/
  | driveCfgVersion (v : Version)
  /-- nothing arrives: the block works on for one step (R248) -/
  | tick
deriving DecidableEq, Repr

/-- The state of the block. -/
structure State where
  /-- CAPS, VERSIONS and the parameters COND_ALWAYS and PANIC_SUB: constants, never written (R20, R24, R26, R39) -/
  cfg        : Configuration
  /-- the CFG_VERSION input (R26, R241) -/
  cfgInput   : Version
  /-- the reset input is asserted (R240) -/
  resetIn    : Bool
  /-- CFG_VERSION as sampled at reset release, the VERSION field of STATUS (R26, R34) -/
  cfgVersion : Version
  /-- STATE (R31) -/
  state      : BlockState
  /-- FAULT, none where the register is 0 (R32, R211) -/
  fault      : Option BuildFault
  /-- COUNT, 12 bits (R28) -/
  count      : BitVec 12
  /-- TABLE, 2048 slots (R27); the CAM is a function of it (R30) -/
  table      : List Variant
  /-- PRICE, 2048 slots (R29) -/
  price      : List Erg
  /-- NOP_WORD (R33) -/
  nopWord    : Word
  /-- PANIC_WORD (R33) -/
  panicWord  : Word
  /-- the build accumulator (R35) -/
  acc        : List Variant
  /-- the index of the registry version being processed (R35) -/
  verIdx     : Nat
  /-- the fault code found so far (R35) -/
  found      : Option BuildFault
  /-- where the build sequencer stands (R35, R121) -/
  phase      : BuildPhase
  /-- the commands held while BUILDING, in the order they were presented (R244) -/
  held       : List Instr
  /-- what the outside world will do next, first event first: the model's own field (log entry 4) -/
  inputs     : List Input
  /-- the responses given in the last step: the model's own view of the response port (log entry 4) -/
  answers    : List Answer
deriving DecidableEq, Repr

/-- Why a step faults: never. The block takes no trap and its two kinds of error are no stop of the machine: a build
fault is the state FAILED and every other error is a response (spec/60_exceptions.md R210, R221). -/
inductive Fault where
deriving DecidableEq, Repr

/-- Why a step is refused. -/
inductive Refusal where
  /-- An instruction whose meaning is not modelled. Raised by no arm of `exec`: every instruction has its meaning. Safe. -/
  | notModelled (mnemonic : String)
  /-- The configuration violates a premise of R25. Raised by `step`, whatever is presented: "a configuration violating a
  premise is refused by the model as a whole" (R25, U8). Safe: the spec defines no behaviour there. -/
  | configPremise
deriving DecidableEq, Repr

/-- The block right after reset release (R39, R241), in the TOY configuration (log entry 1): BUILDING, FAULT and COUNT
0, CFG_VERSION sampled, the build about to start. TABLE, PRICE, NOP_WORD and PANIC_WORD are unspecified and unreadable
(R39); the values here are named by log entry 2. -/
def State.reset : State :=
  { cfg := toyConfig, cfgInput := toyVersion, resetIn := false, cfgVersion := toyVersion,
    state := .building, fault := none, count := 0,
    table := List.replicate tableLen invalidV, price := List.replicate tableLen 0,
    nopWord := 0, panicWord := 0,
    acc := [], verIdx := 0, found := none, phase := .validate,
    held := [], inputs := [], answers := [] }

end Sys2Proof.Machine
end

