-- ==== Sys2Proof/Machine/Ops.lean ====
section
/-! DEFINITION. The operations the meanings share: answering, holding, the STATUS word, the decode and mode-multiplexer
datapath, the build's commit, and RAISING A BUILD FAULT, the block's one exceptional event. The block takes no trap and
has no trap return (spec/60_exceptions.md R220, R221), so there is no exception entry and none to return from. -/

namespace Sys2Proof.Machine

open Sys2Proof

/-- `respond(status, result)` (R7): the response port carries this one answer; nothing else changes (R40, R221). -/
def State.answer (s : State) (i : Instr) (c : RespCode) (r : Result) : State :=
  { s with answers := [{ request := i, resp := c, result := r }] }

/-- The command is held, unanswered (R244). -/
def State.hold (s : State) (i : Instr) : State := { s with held := s.held ++ [i], answers := [] }

/-- A step in which the block answers nothing. -/
def State.quiet (s : State) : State := { s with answers := [] }

/-- The response order of R219 for every command but STATUS and the reserved codes: held while BUILDING, FAILED with
the command's zero record after a failed build, else the command's own response. -/
def serve (i : Instr) (zeroRec : Result) (own : RespCode × Result) (s : State) :
    Host.Outcome State Fault Refusal :=
  match s.state with
  | .building => .next (s.hold i)
  | .failed => .next (s.answer i .failed zeroRec)
  | .ready => .next (s.answer i own.1 own.2)

/-- The 4-bit FAULT register (R32, R211). -/
def faultCode : Option BuildFault → BitVec 4
  | none => 0
  | some f => f.code

/-- The STATUS word (R34): reserved, VERSION, COUNT, FAULT, reserved, STATE from bit 31 down. -/
def State.statusWord (s : State) : BitVec 32 :=
  0#4 ++ s.cfgVersion ++ s.count ++ faultCode s.fault ++ 0#2 ++ s.state.code

/-- `PRICE[i]` (R7, R29). -/
def readPriceSlot (p : List Erg) (i : Slot) : Erg := p.getD i.toNat 0

/-- What decoding a bare codeword depends on in this state: the tables, unreadable unless READY (R39). -/
def State.cwContext (s : State) : CwContext :=
  { ready := decide (s.state = .ready), table := s.table, nopWord := s.nopWord, panicWord := s.panicWord }

/-- `ZERO_DECODE` (R151). -/
def zeroDecode : DecodeResult :=
  { index := 0, variant := 0, src0Sel := 0, dst0Sel := 0, cond := 0, src0Reg := 0, src1Reg := 0, dst0Reg := 0,
    dst1Reg := 0, imm0 := 0, imm1 := 0, price := 0, kernel := false, staticOk := false, nImm := 0, nFlags := 0 }

/-- `ZERO_SUBVAR` (R104). -/
def zeroSubvar : SubvarResult :=
  { sidx := 0, subMin := 0, kernel := false, staticOk := false, priceFormula := 0, floor := 0 }

/-- The OK result of DECODE (R151): the fields of the word, and what the slot its index selects drives, the
table-driven mode multiplexer (R153, R154) and the attribute outputs (R155). -/
def State.decodeOk (s : State) (w : Word) : DecodeResult :=
  let c := cutCodeword w
  let e := readTable s.table c.index
  let d := s.cfg.caps.get e.fam
  let a := s.cfg.caps.attrs e.fam e.sub
  { index := c.index, variant := e.toEntry, src0Sel := srcSel e.src0, dst0Sel := dstSel e.dst0,
    cond := c.cond, src0Reg := c.src0Reg, src1Reg := c.src1Reg, dst0Reg := c.dst0Reg, dst1Reg := c.dst1Reg,
    imm0 := c.imm0, imm1 := c.imm1,
    price := readPriceSlot s.price c.index,
    kernel := a.kernel, staticOk := a.staticOk,
    nImm := BitVec.ofNat 2 d.nImm.val, nFlags := BitVec.ofNat 2 d.nFlags.val }

/-- `MASKED_DECODE` (R152): the OK result of decoding word 0. -/
def State.maskedDecode (s : State) : DecodeResult := s.decodeOk 0

/-- The response of DECODE in READY (R151, R152). -/
def State.decodeAnswer (s : State) (w : Word) : RespCode × Result :=
  if canonical w then (.ok, .decode (s.decodeOk w)) else (.noncanonical, .decode s.maskedDecode)

/-- The response of LOOKUP in READY (R171). -/
def State.lookupAnswer (s : State) (key : Entry) : RespCode × Result :=
  match (Variant.ofEntry key).bind (cam s.table) with
  | some i => (.ok, .index i)
  | none => (.lookupMiss, .index 0)

/-- The response of ENCODE in READY (R172): `ENC_CORE` of the presented instruction, a key that names no mode being in
no slot (R171, R85 (c)). -/
def State.encodeAnswer (s : State) (key : Entry) (cond : Cond) (s0 s1 d0 d1 : RegIdx) (i0 i1 : Imm) :
    RespCode × Result :=
  match Variant.ofEntry key with
  | none => (.lookupMiss, .word 0)
  | some v =>
    let r := encCore s.table
      { variant := v, cond := cond.toNat, src0Reg := s0.toNat, src1Reg := s1.toNat, dst0Reg := d0.toNat,
        dst1Reg := d1.toNat, imm0 := i0.toNat, imm1 := i1.toNat }
    (r.1, .word r.2)

/-- The response of SUBVAR in READY (R104). -/
def State.subvarAnswer (s : State) (fam : BitVec 4) (sidx : SubIdx) (ver : Version) : RespCode × Result :=
  let d := s.cfg.caps.get (Family.ofTag fam)
  match d.sub? sidx with
  | some sd =>
    if d.availSub sd ver then
      (.ok, .subvar { sidx := sidx, subMin := sd.subMin, kernel := sd.kernel, staticOk := sd.staticOk,
                      priceFormula := sd.priceFormula, floor := sd.floor })
    else (.notFound, .subvar zeroSubvar)
  | none => (.notFound, .subvar zeroSubvar)

/-- The build's hidden state is empty and the sequencer stands at its start: BUILD is not under way or is about to
start (R39, R120). -/
def State.clearBuild (s : State) : State :=
  { s with acc := [], verIdx := 0, found := none, phase := .validate }

/-- `raise BuildFault(code)` (R211), as one step that no command observes half done. TABLE, PRICE, NOP_WORD and PANIC_WORD
become unreadable; that they keep what they held before is the model's choice (R39, U7; log entry 18). -/
def State.raiseBuildFault (s : State) (f : BuildFault) : State :=
  { s.clearBuild with fault := some f, count := 0, state := .failed }

/-- COMMIT, FILL_PRICES, DERIVE_CONSTANTS and `STATE <- READY` (R133 to R136), as one step. -/
def State.commit (s : State) (t : Tables) : State :=
  { s.clearBuild with table := t.table, count := t.count, price := t.price,
                      nopWord := t.nopWord, panicWord := t.panicWord, fault := none, state := .ready }

/-- The reset input is asserted (R240, R247): a build in progress is aborted and every held command is dropped without a
response. The other registers are meaningless during reset (R240) and are left as they are. -/
def State.assertReset (s : State) : State :=
  { s.clearBuild with resetIn := true, held := [], answers := [] }

/-- `ON_RESET_RELEASE` (R241). TABLE, PRICE, NOP_WORD and PANIC_WORD are not cleared. -/
def State.releaseReset (s : State) : State :=
  { s.clearBuild with resetIn := false, cfgVersion := s.cfgInput, state := .building, fault := none, count := 0,
                      held := [], answers := [] }

end Sys2Proof.Machine
end

