-- ==== Sys2Proof/Machine/Build.lean ====
section
/-! DEFINITION. The build sequencer (spec/41_synthesis.md R121): one step of BUILD on the hidden state of R35. R140 leaves
the sequencing free; this one processes one line of R121 a step and keeps the commit of R133 to R136 one step, so that
STATUS shows COUNT 0 and FAULT 0 as long as STATE is BUILDING (R35, R193; log entry 8). -/

namespace Sys2Proof.Machine

open Sys2Proof

/-- The sequencer goes on with a new accumulator. -/
def State.buildNext (s : State) (p : BuildPhase) (acc : List Variant) (j : Nat) : State :=
  { s with phase := p, acc := acc, verIdx := j }

/-- The sequencer has found a fault: it is raised in the next step, and nothing further is computed (R211, R212). -/
def State.buildFound (s : State) (f : BuildFault) : State := { s with found := some f }

/-- VALIDATE (R122). -/
def State.buildValidate (s : State) : State :=
  match validate s.cfg s.cfgVersion with
  | some f => s.buildFound f
  | none => s.buildNext .first [] 0

/-- The earliest version (R126). -/
def State.buildFirst (s : State) : State :=
  match foldFirst s.cfg.caps (earliest s.cfg) with
  | .error f => s.buildFound f
  | .ok acc => s.buildNext .fold acc 1

/-- One turn of the loop over the later versions (R127 to R130). -/
def State.buildFold (s : State) : State :=
  match s.cfg.versions[s.verIdx]? with
  | none => s.buildNext .finish s.acc s.verIdx
  | some v =>
    if v ≤ s.cfgVersion then
      match foldVersion s.cfg.caps s.acc v with
      | .error f => s.buildFound f
      | .ok acc => s.buildNext .fold acc (s.verIdx + 1)
    else s.buildNext .finish s.acc s.verIdx

/-- The final checks and the commit (R131 to R136). A build that fails here, DERIVED_CONST_MISS among the faults, has
written no table (log entry 18). -/
def State.buildFinish (s : State) : State :=
  match finishBuild s.cfg s.cfgVersion s.acc with
  | .error f => s.buildFound f
  | .ok t => s.commit t

/-- One step of the build (R121). -/
def State.buildStep (s : State) : State :=
  match s.found with
  | some f => s.raiseBuildFault f
  | none =>
    match s.phase with
    | .validate => s.buildValidate
    | .first => s.buildFirst
    | .fold => s.buildFold
    | .finish => s.buildFinish

end Sys2Proof.Machine
end

