-- ==== Sys2Proof/Machine/CodewordRows.lean ====
section
/-! DEFINITION. The codeword rows of the opcode table: what the block does with a codeword presented for decoding is
DECODE's effect on it (spec/30_encoding.md R83, spec/42_decode.md R151 to R156, spec/43_encode_cam.md R175; log entry 5).
What the VM interpreter then does with the decoded instruction is outside the block (spec/00_scope.md R4 (a)). -/

namespace Sys2Proof.Machine

open Sys2Proof

/-- The block's response to a codeword presented for decoding, as the row `i` (R151). -/
def decodeCodeword (i : Instr) (w : Word) (s : State) : Host.Outcome State Fault Refusal :=
  serve i (.decode zeroDecode) (s.decodeAnswer w) s

/-- A canonical codeword of family Invalid, tag 0 (R83, R151; R156 for slot 0 and the padding slots). -/
def execInvalid (c : Codeword) (s : State) : Host.Outcome State Fault Refusal :=
  decodeCodeword (.invalid c) (codeword c) s

/-- A canonical codeword of family Nop, tag 1 (R83, R151). -/
def execNop (c : Codeword) (s : State) : Host.Outcome State Fault Refusal :=
  decodeCodeword (.nop c) (codeword c) s

/-- A canonical codeword of family Add, tag 2 (R83, R151). -/
def execAdd (c : Codeword) (s : State) : Host.Outcome State Fault Refusal :=
  decodeCodeword (.add c) (codeword c) s

/-- A canonical codeword of family Sub, tag 3 (R83, R151). -/
def execSub (c : Codeword) (s : State) : Host.Outcome State Fault Refusal :=
  decodeCodeword (.sub c) (codeword c) s

/-- A canonical codeword of family Mul, tag 4 (R83, R151). -/
def execMul (c : Codeword) (s : State) : Host.Outcome State Fault Refusal :=
  decodeCodeword (.mul c) (codeword c) s

/-- A canonical codeword of family Div, tag 5 (R83, R151). -/
def execDiv (c : Codeword) (s : State) : Host.Outcome State Fault Refusal :=
  decodeCodeword (.div c) (codeword c) s

/-- A canonical codeword of family Jump, tag 6 (R83, R151). -/
def execJump (c : Codeword) (s : State) : Host.Outcome State Fault Refusal :=
  decodeCodeword (.jump c) (codeword c) s

/-- A canonical codeword of family Context, tag 7 (R83, R151). -/
def execContext (c : Codeword) (s : State) : Host.Outcome State Fault Refusal :=
  decodeCodeword (.context c) (codeword c) s

/-- A canonical codeword of family Shift, tag 8 (R83, R151). -/
def execShift (c : Codeword) (s : State) : Host.Outcome State Fault Refusal :=
  decodeCodeword (.shift c) (codeword c) s

/-- A canonical codeword of family Binop, tag 9 (R83, R151). -/
def execBinop (c : Codeword) (s : State) : Host.Outcome State Fault Refusal :=
  decodeCodeword (.binop c) (codeword c) s

/-- A canonical codeword of family Ptr, tag 10 (R83, R151). -/
def execPtr (c : Codeword) (s : State) : Host.Outcome State Fault Refusal :=
  decodeCodeword (.ptr c) (codeword c) s

/-- A canonical codeword of family NearCall, tag 11 (R83, R151). -/
def execNearCall (c : Codeword) (s : State) : Host.Outcome State Fault Refusal :=
  decodeCodeword (.nearCall c) (codeword c) s

/-- A canonical codeword of family Log, tag 12 (R83, R151). -/
def execLog (c : Codeword) (s : State) : Host.Outcome State Fault Refusal :=
  decodeCodeword (.log c) (codeword c) s

/-- A canonical codeword of family FarCall, tag 13 (R83, R151). -/
def execFarCall (c : Codeword) (s : State) : Host.Outcome State Fault Refusal :=
  decodeCodeword (.farCall c) (codeword c) s

/-- A canonical codeword of family Ret, tag 14 (R83, R151). -/
def execRet (c : Codeword) (s : State) : Host.Outcome State Fault Refusal :=
  decodeCodeword (.ret c) (codeword c) s

/-- A canonical codeword of family UMA, tag 15 (R83, R151). -/
def execUma (c : Codeword) (s : State) : Host.Outcome State Fault Refusal :=
  decodeCodeword (.uma c) (codeword c) s

/-- The derived constant NOP_WORD as a codeword (R175). -/
def execNopConst (s : State) : Host.Outcome State Fault Refusal :=
  decodeCodeword .nopConst s.nopWord s

/-- The derived constant PANIC_WORD as a codeword (R175). -/
def execPanicConst (s : State) : Host.Outcome State Fault Refusal :=
  decodeCodeword .panicConst s.panicWord s

/-- A non-canonical codeword with gap bit 11 set (R85 (a), R152). -/
def execNoncanonicalGap11 (c : Codeword) (gap12 : BitVec 1) (s : State) : Host.Outcome State Fault Refusal :=
  decodeCodeword (.noncanonicalGap11 c gap12) (codewordBits c (gap12 ++ 1#1)) s

/-- A non-canonical codeword with gap bit 12 set and gap bit 11 clear (R85 (a), R152). -/
def execNoncanonicalGap12 (c : Codeword) (s : State) : Host.Outcome State Fault Refusal :=
  decodeCodeword (.noncanonicalGap12 c) (codewordBits c 2) s

end Sys2Proof.Machine
end

