-- ==== Sys2Proof/Machine/StatusCmd.lean ====
section
/-! DEFINITION. STATUS (spec/44_price_status.md R193) and the reserved command codes (R194): answered at once in every
state (spec/70_reset_and_hazards.md R244). -/

namespace Sys2Proof.Machine

open Sys2Proof

/-- STATUS (R193). -/
def execStatus (s : State) : Host.Outcome State Fault Refusal :=
  .next (s.answer .status .ok (.status s.statusWord))

/-- Command code 0x9 (R194). -/
def execReservedCmd9 (operands : BitVec 83) (s : State) : Host.Outcome State Fault Refusal :=
  .next (s.answer (.reservedCmd9 operands) .badCmd .zero)

/-- Command codes 0xA and 0xB (R194). -/
def execReservedCmdAB (low : BitVec 1) (operands : BitVec 83) (s : State) : Host.Outcome State Fault Refusal :=
  .next (s.answer (.reservedCmdAB low operands) .badCmd .zero)

/-- Command codes 0xC to 0xF (R194). -/
def execReservedCmdCF (low : BitVec 2) (operands : BitVec 83) (s : State) : Host.Outcome State Fault Refusal :=
  .next (s.answer (.reservedCmdCF low operands) .badCmd .zero)

end Sys2Proof.Machine
end

