-- ==== Sys2Proof/Machine/TableCmd.lean ====
section
/-! DEFINITION. The commands that read the tables and the descriptor ROM: DECODE, CANON, READ_ENTRY (spec/42_decode.md),
ENCODE, LOOKUP, READ_CONST (spec/43_encode_cam.md), READ_PRICE (spec/44_price_status.md) and SUBVAR
(spec/40_descriptors.md). -/

namespace Sys2Proof.Machine

open Sys2Proof

/-- DECODE (R151, R152). -/
def execDecode (word : Word) (s : State) : Host.Outcome State Fault Refusal :=
  serve (.decode word) (.decode zeroDecode) (s.decodeAnswer word) s

/-- CANON (R150). -/
def execCanon (word : Word) (s : State) : Host.Outcome State Fault Refusal :=
  serve (.canon word) (.canon false) (.ok, .canon (canonical word)) s

/-- ENCODE (R172). -/
def execEncode (key : Entry) (cond : Cond) (src0Reg src1Reg dst0Reg dst1Reg : RegIdx) (imm0 imm1 : Imm) (s : State) :
    Host.Outcome State Fault Refusal :=
  serve (.encode key cond src0Reg src1Reg dst0Reg dst1Reg imm0 imm1) (.word 0)
    (s.encodeAnswer key cond src0Reg src1Reg dst0Reg dst1Reg imm0 imm1) s

/-- LOOKUP (R171). -/
def execLookup (key : Entry) (s : State) : Host.Outcome State Fault Refusal :=
  serve (.lookup key) (.index 0) (s.lookupAnswer key) s

/-- READ_ENTRY (R157). -/
def execReadEntry (index : Slot) (s : State) : Host.Outcome State Fault Refusal :=
  serve (.readEntry index) (.entry 0) (.ok, .entry (readTable s.table index).toEntry) s

/-- READ_PRICE (R192). -/
def execReadPrice (index : Slot) (s : State) : Host.Outcome State Fault Refusal :=
  serve (.readPrice index) (.price 0) (.ok, .price (readPriceSlot s.price index)) s

/-- SUBVAR (R104). -/
def execSubvar (fam : BitVec 4) (sidx : SubIdx) (ver : Version) (s : State) : Host.Outcome State Fault Refusal :=
  serve (.subvar fam sidx ver) (.subvar zeroSubvar) (s.subvarAnswer fam sidx ver) s

/-- READ_CONST (R176). -/
def execReadConst (sel : BitVec 1) (s : State) : Host.Outcome State Fault Refusal :=
  serve (.readConst sel) (.word 0) (.ok, .word (if sel = 0 then s.nopWord else s.panicWord)) s

end Sys2Proof.Machine
end

