-- ==== Sys2Proof/Machine/Dispatch.lean ====
section
/-! DEFINITION. The dispatch: one arm per row of spec/opcode_table.json. -/

namespace Sys2Proof.Machine

open Sys2Proof

def exec (i : Instr) (s : State) : Host.Outcome State Fault Refusal :=
  match i with
  | .status => Sys2Proof.Machine.execStatus s
  | .decode word => Sys2Proof.Machine.execDecode word s
  | .canon word => Sys2Proof.Machine.execCanon word s
  | .encode key cond src0Reg src1Reg dst0Reg dst1Reg imm0 imm1 => Sys2Proof.Machine.execEncode key cond src0Reg src1Reg dst0Reg dst1Reg imm0 imm1 s
  | .lookup key => Sys2Proof.Machine.execLookup key s
  | .readEntry index => Sys2Proof.Machine.execReadEntry index s
  | .readPrice index => Sys2Proof.Machine.execReadPrice index s
  | .subvar fam sidx ver => Sys2Proof.Machine.execSubvar fam sidx ver s
  | .readConst sel => Sys2Proof.Machine.execReadConst sel s
  | .reservedCmd9 operands => Sys2Proof.Machine.execReservedCmd9 operands s
  | .reservedCmdAB low operands => Sys2Proof.Machine.execReservedCmdAB low operands s
  | .reservedCmdCF low operands => Sys2Proof.Machine.execReservedCmdCF low operands s
  | .invalid c => Sys2Proof.Machine.execInvalid c s
  | .nop c => Sys2Proof.Machine.execNop c s
  | .add c => Sys2Proof.Machine.execAdd c s
  | .sub c => Sys2Proof.Machine.execSub c s
  | .mul c => Sys2Proof.Machine.execMul c s
  | .div c => Sys2Proof.Machine.execDiv c s
  | .jump c => Sys2Proof.Machine.execJump c s
  | .context c => Sys2Proof.Machine.execContext c s
  | .shift c => Sys2Proof.Machine.execShift c s
  | .binop c => Sys2Proof.Machine.execBinop c s
  | .ptr c => Sys2Proof.Machine.execPtr c s
  | .nearCall c => Sys2Proof.Machine.execNearCall c s
  | .log c => Sys2Proof.Machine.execLog c s
  | .farCall c => Sys2Proof.Machine.execFarCall c s
  | .ret c => Sys2Proof.Machine.execRet c s
  | .uma c => Sys2Proof.Machine.execUma c s
  | .nopConst => Sys2Proof.Machine.execNopConst s
  | .panicConst => Sys2Proof.Machine.execPanicConst s
  | .noncanonicalGap11 c gap12 => Sys2Proof.Machine.execNoncanonicalGap11 c gap12 s
  | .noncanonicalGap12 c => Sys2Proof.Machine.execNoncanonicalGap12 c s

end Sys2Proof.Machine
end

