-- ==== Sys2Proof/Machine/Events.lean ====
section
/-! DEFINITION. The block's own step, the release of the held commands, the reset events, and the fetch of a request
(spec/70_reset_and_hazards.md). -/

namespace Sys2Proof.Machine

open Sys2Proof

/-- The responses an outcome carries. -/
def outcomeAnswers : Host.Outcome State Fault Refusal → List Answer
  | .next t => t.answers
  | .fault _ => []
  | .refused _ => []

/-- The responses to the held commands in the state that ended the build: each is answered once, by its own rule in
the new state (R219, R244). Every order gives the same responses (R224); they stand in the order of presentation. -/
def answerHeld (s : State) : List Instr → List Answer
  | [] => []
  | i :: rest => outcomeAnswers (exec i s) ++ answerHeld s rest

/-- All held commands are released when STATE leaves BUILDING (R224, R244). -/
def State.releaseHeld (s : State) : State :=
  { s with held := [], answers := answerHeld s s.held }

/-- The block works for one step: nothing while reset is asserted (R240) or the build has ended (R40), one step of the
build while BUILDING, with the release of the held commands when it ends the build. -/
def State.tick (s : State) : State :=
  if s.resetIn then s.quiet
  else if s.state = .building then
    if s.buildStep.state = .building then s.buildStep.quiet else s.buildStep.releaseHeld
  else s.quiet

/-- The instruction a request presents to the block in this state. -/
def State.fetch (s : State) (p : PortWord) : Instr := decode s.cwContext p

/-- What one event of the outside world does. -/
def stepInput (e : Input) (s : State) : Host.Outcome State Fault Refusal :=
  match e with
  | .tick => .next s.tick
  | .assertReset => .next s.assertReset
  | .releaseReset => .next (if s.resetIn then s.releaseReset else s.quiet)
  | .driveCfgVersion v => .next { s with cfgInput := v, answers := [] }
  | .request p => if s.resetIn then .next s.quiet else exec (s.fetch p) s

/-- The build run to its end, within `n` steps (R242). -/
def State.runBuild : Nat → State → State
  | 0, s => s
  | n + 1, s => if s.state = .building then State.runBuild n s.tick else s

/-- The block out of reset and with its build ended: it serves every command (log entry 7). -/
def State.served (s : State) : State :=
  let t := if s.resetIn then s.releaseReset else s
  State.runBuild (t.cfg.versions.length + 4) t

/-- `s`, its build ended, with a row's bits presented next (log entry 7). -/
def State.presentRow (s : State) (nbits w : Nat) : State :=
  match rowPortWord nbits w with
  | some p => { s.served with inputs := .request p :: s.served.inputs }
  | none => s

end Sys2Proof.Machine
end

