-- ==== Sys2Proof/Machine/Step.lean ====
section
/-! DEFINITION. One step of the machine: the next event of the outside world, or, where there is none, the block's own
work. -/

namespace Sys2Proof.Machine

open Sys2Proof

/-- One step. A configuration outside the premises of R25 is refused as a whole. -/
def step (s : State) : Host.Outcome State Fault Refusal :=
  if s.cfg.wf then
    match s.inputs with
    | [] => .next s.tick
    | e :: rest => stepInput e { s with inputs := rest }
  else .refused .configPremise

/-- `s` with an opcode-table row's bits as the request the next step serves (log entry 7). -/
def State.withFetchWord (s : State) (nbits w : Nat) : State := s.presentRow nbits w

end Sys2Proof.Machine
end

