-- ==== Sys2Proof/Safety.lean ====
section
/-! DEFINITION. The terms claims about the block are stated in: which instructions are held while BUILDING, the all-zero
record of each, the outcome a build under way will have, the invariant of the machine, and its reachable states. -/

namespace Sys2Proof.Machine

open Sys2Proof

/-- The instructions that the hold rule R244 and the FAILED rule R213 are about: all but STATUS and the reserved command
codes. -/
def heldWhileBuilding : Instr → Bool
  | .status => false
  | .reservedCmd9 _ => false
  | .reservedCmdAB _ _ => false
  | .reservedCmdCF _ _ => false
  | .decode _ => true
  | .canon _ => true
  | .encode _ _ _ _ _ _ _ _ => true
  | .lookup _ => true
  | .readEntry _ => true
  | .readPrice _ => true
  | .subvar _ _ _ => true
  | .readConst _ => true
  | .invalid _ => true
  | .nop _ => true
  | .add _ => true
  | .sub _ => true
  | .mul _ => true
  | .div _ => true
  | .jump _ => true
  | .context _ => true
  | .shift _ => true
  | .binop _ => true
  | .ptr _ => true
  | .nearCall _ => true
  | .log _ => true
  | .farCall _ => true
  | .ret _ => true
  | .uma _ => true
  | .nopConst => true
  | .panicConst => true
  | .noncanonicalGap11 _ _ => true
  | .noncanonicalGap12 _ => true

/-- The zero record that the instruction's own rule names (R213). -/
def zeroRecord : Instr → Result
  | .canon _ => .canon false
  | .encode _ _ _ _ _ _ _ _ => .word 0
  | .lookup _ => .index 0
  | .readEntry _ => .entry 0
  | .readPrice _ => .price 0
  | .subvar _ _ _ => .subvar zeroSubvar
  | .readConst _ => .word 0
  | .status => .zero
  | .reservedCmd9 _ => .zero
  | .reservedCmdAB _ _ => .zero
  | .reservedCmdCF _ _ => .zero
  | .decode _ => .decode zeroDecode
  | .invalid _ => .decode zeroDecode
  | .nop _ => .decode zeroDecode
  | .add _ => .decode zeroDecode
  | .sub _ => .decode zeroDecode
  | .mul _ => .decode zeroDecode
  | .div _ => .decode zeroDecode
  | .jump _ => .decode zeroDecode
  | .context _ => .decode zeroDecode
  | .shift _ => .decode zeroDecode
  | .binop _ => .decode zeroDecode
  | .ptr _ => .decode zeroDecode
  | .nearCall _ => .decode zeroDecode
  | .log _ => .decode zeroDecode
  | .farCall _ => .decode zeroDecode
  | .ret _ => .decode zeroDecode
  | .uma _ => .decode zeroDecode
  | .nopConst => .decode zeroDecode
  | .panicConst => .decode zeroDecode
  | .noncanonicalGap11 _ _ => .decode zeroDecode
  | .noncanonicalGap12 _ => .decode zeroDecode

/-- TABLE and PRICE have 2048 slots (R27, R29). -/
def State.slotsWf (s : State) : Bool := decide (s.table.length = tableLen) && decide (s.price.length = tableLen)

/-- What a successful build wrote, as the state holds it (R133 to R135). -/
def State.tables (s : State) : Tables :=
  { table := s.table, count := s.count, price := s.price, nopWord := s.nopWord, panicWord := s.panicWord }

/-- The outcome that the build under way will have, read from its hidden state (R35): the fault found, or what is left
of R121 from where the sequencer stands. -/
def State.resume (s : State) : Except BuildFault Tables :=
  match s.found with
  | some f => .error f
  | none =>
    match s.phase with
    | .validate => build s.cfg s.cfgVersion
    | .first => enumerateAndFold s.cfg s.cfgVersion
    | .fold => foldAndFinish s.cfg s.cfgVersion s.acc (s.cfg.versions.drop s.verIdx)
    | .finish => finishBuild s.cfg s.cfgVersion s.acc

/-- The steps the build under way still needs at most (R242). -/
def State.buildFuel (s : State) : Nat :=
  match s.found with
  | some _ => 1
  | none =>
    match s.phase with
    | .validate => s.cfg.versions.length + 5
    | .first => s.cfg.versions.length + 4
    | .fold => (s.cfg.versions.length - s.verIdx) + 3
    | .finish => 2

/-- The invariant of the machine. The registers mean something only out of reset (R240): then FAULT is nonzero exactly in
FAILED (R32), COUNT is 0 unless READY (R28), READY holds what BUILD gives for the configuration and the sampled version
and FAILED its fault (R39, R139), a build under way is on the way to that same outcome, and commands are held only while
BUILDING (R244). -/
structure State.Inv (s : State) : Prop where
  cfgOk     : s.cfg.wf = true
  slots     : s.slotsWf = true
  heldKind  : ∀ i ∈ s.held, heldWhileBuilding i = true
  heldReset : s.resetIn = true → s.held = []
  heldEnd   : s.state ≠ .building → s.held = []
  faultIff  : s.resetIn = false → (s.fault ≠ none ↔ s.state = .failed)
  countZero : s.resetIn = false → s.state ≠ .ready → s.count = 0
  building  : s.resetIn = false → s.state = .building → s.resume = build s.cfg s.cfgVersion
  ready     : s.resetIn = false → s.state = .ready → build s.cfg s.cfgVersion = .ok s.tables
  failed    : s.resetIn = false → s.state = .failed → ∃ f, s.fault = some f ∧ build s.cfg s.cfgVersion = .error f

/-- The block right after a reset release (R241) in some configuration within the premises of R25, whatever the tables
hold and whatever the outside world will do. -/
structure AtRelease (s : State) : Prop where
  cfgOk   : s.cfg.wf = true
  slots   : s.slotsWf = true
  out     : s.resetIn = false
  sampled : s.cfgVersion = s.cfgInput
  state   : s.state = .building
  fault   : s.fault = none
  count   : s.count = 0
  hidden  : s.acc = [] ∧ s.verIdx = 0 ∧ s.found = none ∧ s.phase = .validate
  held    : s.held = []

/-- The states of the runs that begin at a reset release. -/
inductive Reachable : State → Prop where
  | release (s : State) : AtRelease s → Reachable s
  | next (s t : State) : Reachable s → step s = .next t → Reachable t

/-- Two states that differ at most in what no command may read before the build commits and after it fails: TABLE, PRICE,
NOP_WORD, PANIC_WORD (R39). -/
def SameButTables (s t : State) : Prop :=
  { s with table := [], price := [], nopWord := 0, panicWord := 0 }
    = { t with table := [], price := [], nopWord := 0, panicWord := 0 }

end Sys2Proof.Machine
end

