-- ==== Sys2Proof/Certificates/Slice0/Obligations.lean ====
section
/-! DEFINITION. What is stated about the block, from the numbered rules of spec/. Every statement is about every state,
and so about every configuration: the configuration is a field of the state. Where a statement needs READY to hold a
built table it has the invariant `State.Inv` (StepKeepsInvariant, ReleaseHasInvariant) as a premise. -/

namespace Sys2Proof.Machine

open Sys2Proof

/-- The sixteen family rows of the opcode table for one codeword, each with its family. -/
def familyRows (c : Codeword) : List (Instr × Family) :=
  [(.invalid c, .invalid), (.nop c, .nop), (.add c, .add), (.sub c, .sub),
   (.mul c, .mul), (.div c, .div), (.jump c, .jump), (.context c, .context),
   (.shift c, .shift), (.binop c, .binop), (.ptr c, .ptr), (.nearCall c, .nearCall),
   (.log c, .log), (.farCall c, .farCall), (.ret c, .ret), (.uma c, .uma)]

/-- The command code of an instruction of format REQ (R81). -/
def commandCode : Instr → Option (BitVec 4)
  | .status => some 0
  | .decode _ => some 1
  | .canon _ => some 2
  | .encode _ _ _ _ _ _ _ _ => some 3
  | .lookup _ => some 4
  | .readEntry _ => some 5
  | .readPrice _ => some 6
  | .subvar _ _ _ => some 7
  | .readConst _ => some 8
  | .reservedCmd9 _ => some 9
  | .reservedCmdAB low _ => some (0b101#3 ++ low)
  | .reservedCmdCF low _ => some (0b11#2 ++ low)
  | _ => none

/-- The class code of R75. -/
def classCode : OpClass → BitVec 2
  | .regOnly => 0
  | .regOrImm16 => 1
  | .full => 2

/-- A Variant's place in the enumeration order of R100 and R125 as a number: tag, sub-variant, source option, destination
option, then the flags as a binary number whose bit 0 is flag0. -/
def enumKey (x : Variant) : Nat :=
  x.fam.tag.toNat * 65536 + x.sub.toNat * 256 + x.src0.optCode.toNat * 32 + x.dst0.optCode.toNat * 4
    + x.flag1.toNat * 2 + x.flag0.toNat

/-- A configuration and version that all three checks of R122 let pass. -/
structure Validated (cfg : Configuration) (v : Version) : Prop where
  names   : ∀ f g : Family, f ≠ g → (cfg.caps.get f).name ≠ (cfg.caps.get g).name
  known   : v ∈ cfg.versions
  classes : ∀ u ∈ cfg.versions, u ≤ v → ∀ f, (cfg.caps.get f).famMin ≤ u → (cfg.caps.get f).dstClass u ≠ .regOrImm16

/-- At some registry version up to `v` an accumulator entry of the version before it has no semantic counterpart: the check
of R127 fails there. -/
def LacksPredecessor (cfg : Configuration) (v : Version) : Prop :=
  ∃ pre u w post a, cfg.versions = pre ++ u :: w :: post ∧ w ≤ v ∧ accumulatorAt cfg u = .ok a
    ∧ ∃ x ∈ a, ∀ y ∈ enum cfg.caps w, semEq x y = false

/-- The accumulator holds the variant of the derived constant of sub-variant `s` of family `f`: the first option of each
class at `v`, flags clear (R175). -/
def HoldsDerived (cfg : Configuration) (v : Version) (acc : List Variant) (f : Family) (s : SubIdx) : Prop :=
  ∃ d, ((cfg.caps.get f).dstClass v).dstFirst = some d
    ∧ { fam := f, sub := s, src0 := ((cfg.caps.get f).srcClass v).srcFirst, dst0 := d, flag1 := false, flag0 := false } ∈ acc

end Sys2Proof.Machine

open Sys2Proof Sys2Proof.Machine

/-! ## The commands -/

/-- R193, R34: STATUS answers OK at once in every state, with the four fields and the two zero fields of the STATUS
word; while BUILDING it shows STATE 0, FAULT 0 and COUNT 0, after a failed build STATE 2 and the fault of the build. -/
def Obligations.StatusAnswersItsFieldsAtOnce : Prop :=
  ∀ s : State, ∃ w : BitVec 32,
    exec .status s = .next { s with answers := [{ request := .status, resp := .ok, result := .status w }] }
      ∧ w.extractLsb' 0 2 = s.state.code ∧ w.extractLsb' 2 2 = 0 ∧ w.extractLsb' 4 4 = faultCode s.fault
      ∧ w.extractLsb' 8 12 = s.count ∧ w.extractLsb' 20 8 = s.cfgVersion ∧ w.extractLsb' 28 4 = 0
      ∧ (s.Inv → s.resetIn = false → s.state = .building →
          w.extractLsb' 0 2 = 0 ∧ w.extractLsb' 4 4 = 0 ∧ w.extractLsb' 8 12 = 0)
      ∧ (s.state = .ready → w.extractLsb' 0 2 = 1)
      ∧ (s.Inv → s.resetIn = false → s.state = .failed →
          w.extractLsb' 0 2 = 2 ∧ w.extractLsb' 8 12 = 0
          ∧ ∃ f, build s.cfg s.cfgVersion = .error f ∧ w.extractLsb' 4 4 = f.code)

/-- R194: the reserved command codes answer BAD_CMD with the all-zero result in every state. -/
def Obligations.ReservedCodesAnswerBadCmd : Prop :=
  ∀ s : State,
    (∀ o, exec (.reservedCmd9 o) s
        = .next { s with answers := [{ request := .reservedCmd9 o, resp := .badCmd, result := .zero }] })
    ∧ (∀ l o, exec (.reservedCmdAB l o) s
        = .next { s with answers := [{ request := .reservedCmdAB l o, resp := .badCmd, result := .zero }] })
    ∧ (∀ l o, exec (.reservedCmdCF l o) s
        = .next { s with answers := [{ request := .reservedCmdCF l o, resp := .badCmd, result := .zero }] })

/-- R150, R71: CANON answers whether bits 11 and 12 are both zero, whatever the other bits are. -/
def Obligations.CanonTellsTheGapBits : Prop :=
  ∀ (s : State) (w : Word),
    (s.state = .building → exec (.canon w) s = .next { s with held := s.held ++ [.canon w], answers := [] })
    ∧ (s.state = .failed → exec (.canon w) s
        = .next { s with answers := [{ request := .canon w, resp := .failed, result := .canon false }] })
    ∧ (s.state = .ready → exec (.canon w) s
        = .next { s with answers := [{ request := .canon w, resp := .ok,
                                       result := .canon (!w.getLsbD 11 && !w.getLsbD 12) }] })

/-- R151, R155: what DECODE answers in each state: held, FAILED with zeros, the masked result of word 0 for a non-canonical
word, and the fields of the word with the selected slot's outputs for a canonical one. In a built block `kernel` and
`static_ok` are those of the ROM record of the slot's family and sub-variant (R102). -/
def Obligations.DecodeCutsTheWordAndSelectsTheSlot : Prop :=
  ∀ (s : State) (w : Word),
    (s.state = .building → exec (.decode w) s = .next { s with held := s.held ++ [.decode w], answers := [] })
    ∧ (s.state = .failed → exec (.decode w) s
        = .next { s with answers := [{ request := .decode w, resp := .failed, result := .decode zeroDecode }] })
    ∧ (s.state = .ready → w.extractLsb' 11 2 ≠ 0 → ∃ r,
        exec (.decode w) s
          = .next { s with answers := [{ request := .decode w, resp := .noncanonical, result := .decode r }] }
        ∧ exec (.decode 0) s
          = .next { s with answers := [{ request := .decode 0, resp := .ok, result := .decode r }] })
    ∧ (s.state = .ready → w.extractLsb' 11 2 = 0 → ∀ e, readTable s.table (w.extractLsb' 0 11) = e → ∃ r,
        exec (.decode w) s = .next { s with answers := [{ request := .decode w, resp := .ok, result := .decode r }] }
        ∧ r = { index := w.extractLsb' 0 11, variant := e.toEntry, src0Sel := srcSel e.src0, dst0Sel := dstSel e.dst0,
                cond := w.extractLsb' 13 3, src0Reg := w.extractLsb' 16 4, src1Reg := w.extractLsb' 20 4,
                dst0Reg := w.extractLsb' 24 4, dst1Reg := w.extractLsb' 28 4,
                imm0 := w.extractLsb' 32 16, imm1 := w.extractLsb' 48 16,
                price := readPriceSlot s.price (w.extractLsb' 0 11),
                kernel := (s.cfg.caps.attrs e.fam e.sub).kernel,
                staticOk := (s.cfg.caps.attrs e.fam e.sub).staticOk,
                nImm := BitVec.ofNat 2 (s.cfg.caps.get e.fam).nImm.val,
                nFlags := BitVec.ofNat 2 (s.cfg.caps.get e.fam).nFlags.val })
    ∧ (s.Inv → s.resetIn = false → s.state = .ready → w.extractLsb' 11 2 = 0 → ∃ r sd,
        exec (.decode w) s = .next { s with answers := [{ request := .decode w, resp := .ok, result := .decode r }] }
        ∧ (s.cfg.caps.get (readTable s.table (w.extractLsb' 0 11)).fam).subs[(readTable s.table
            (w.extractLsb' 0 11)).sub.toNat]? = some sd
        ∧ r.kernel = sd.kernel ∧ r.staticOk = sd.staticOk)

/-- R152: in a built block the answer to a non-canonical word is the Invalid instruction at the maximum price, with no
field of the word in it. -/
def Obligations.NoncanonicalWordDecodesMasked : Prop :=
  ∀ (s : State) (w : Word), s.Inv → s.resetIn = false → s.state = .ready → w.extractLsb' 11 2 ≠ 0 → ∃ r,
    exec (.decode w) s
      = .next { s with answers := [{ request := .decode w, resp := .noncanonical, result := .decode r }] }
    ∧ exec (.decode 0) s = .next { s with answers := [{ request := .decode 0, resp := .ok, result := .decode r }] }
    ∧ r.index = 0 ∧ r.variant = 0 ∧ r.src0Sel = 0 ∧ r.dst0Sel = 0 ∧ r.cond = 0 ∧ r.src0Reg = 0 ∧ r.src1Reg = 0
    ∧ r.dst0Reg = 0 ∧ r.dst1Reg = 0 ∧ r.imm0 = 0 ∧ r.imm1 = 0 ∧ r.price = 0xFFFFFFFF#32
    ∧ (∃ sd, s.cfg.caps.invalid.subs[0]? = some sd ∧ r.kernel = sd.kernel ∧ r.staticOk = sd.staticOk)
    ∧ r.nImm.toNat = s.cfg.caps.invalid.nImm.val ∧ r.nFlags.toNat = s.cfg.caps.invalid.nFlags.val

/-- R157: READ_ENTRY answers the slot's ENTRY, its reserved bits zero; a padding slot of a built table reads 0. -/
def Obligations.ReadEntryAnswersTheSlot : Prop :=
  ∀ (s : State) (i : Slot),
    (s.state = .building → exec (.readEntry i) s = .next { s with held := s.held ++ [.readEntry i], answers := [] })
    ∧ (s.state = .failed → exec (.readEntry i) s
        = .next { s with answers := [{ request := .readEntry i, resp := .failed, result := .entry 0 }] })
    ∧ (s.state = .ready → exec (.readEntry i) s
        = .next { s with answers := [{ request := .readEntry i, resp := .ok,
                                       result := .entry (readTable s.table i).toEntry }] })
    ∧ (readTable s.table i).toEntry.extractLsb' 24 8 = 0
    ∧ (s.Inv → s.resetIn = false → s.state = .ready → s.count.toNat ≤ i.toNat →
        (readTable s.table i).toEntry = 0)

/-- R192: READ_PRICE answers the slot's price, the price DECODE outputs for every canonical word of that index; slot 0
and the padding slots of a built table have the maximum price. -/
def Obligations.ReadPriceAnswersTheSlot : Prop :=
  ∀ (s : State) (i : Slot),
    (s.state = .building → exec (.readPrice i) s = .next { s with held := s.held ++ [.readPrice i], answers := [] })
    ∧ (s.state = .failed → exec (.readPrice i) s
        = .next { s with answers := [{ request := .readPrice i, resp := .failed, result := .price 0 }] })
    ∧ (s.state = .ready → exec (.readPrice i) s
        = .next { s with answers := [{ request := .readPrice i, resp := .ok,
                                       result := .price (readPriceSlot s.price i) }] })
    ∧ (∀ w, s.state = .ready → w.extractLsb' 11 2 = 0 → w.extractLsb' 0 11 = i → ∃ r,
        exec (.decode w) s = .next { s with answers := [{ request := .decode w, resp := .ok, result := .decode r }] }
        ∧ r.price = readPriceSlot s.price i)
    ∧ (s.Inv → s.resetIn = false → s.state = .ready → i = 0 ∨ s.count.toNat ≤ i.toNat →
        readPriceSlot s.price i = 0xFFFFFFFF#32)

/-- R171: LOOKUP answers the lowest slot whose ENTRY agrees with the key in bits [23:0], and LOOKUP_MISS where no slot
does: bits [31:24] of the key are ignored and a key that names no mode misses. In a built table the key of INVALID_V
gives 0, and a key with a flag set that its family does not declare misses. -/
def Obligations.LookupFindsTheLowestSlot : Prop :=
  ∀ (s : State) (key : Entry),
    (s.state = .building → exec (.lookup key) s = .next { s with held := s.held ++ [.lookup key], answers := [] })
    ∧ (s.state = .failed → exec (.lookup key) s
        = .next { s with answers := [{ request := .lookup key, resp := .failed, result := .index 0 }] })
    ∧ (s.state = .ready → s.slotsWf = true → ∀ i : Slot,
        (readTable s.table i).toEntry.extractLsb' 0 24 = key.extractLsb' 0 24 →
        (∀ j : Slot, j < i → (readTable s.table j).toEntry.extractLsb' 0 24 ≠ key.extractLsb' 0 24) →
        exec (.lookup key) s
          = .next { s with answers := [{ request := .lookup key, resp := .ok, result := .index i }] })
    ∧ (s.state = .ready → s.slotsWf = true →
        (∀ j : Slot, (readTable s.table j).toEntry.extractLsb' 0 24 ≠ key.extractLsb' 0 24) →
        exec (.lookup key) s
          = .next { s with answers := [{ request := .lookup key, resp := .lookupMiss, result := .index 0 }] })
    ∧ (s.Inv → s.resetIn = false → s.state = .ready → key.extractLsb' 0 24 = 0 →
        exec (.lookup key) s
          = .next { s with answers := [{ request := .lookup key, resp := .ok, result := .index 0 }] })
    ∧ (s.Inv → s.resetIn = false → s.state = .ready → ∀ f : Family, key.extractLsb' 0 4 = f.tag →
        ((s.cfg.caps.get f).nFlags.val = 0 ∧ (key.getLsbD 22 = true ∨ key.getLsbD 23 = true))
          ∨ ((s.cfg.caps.get f).nFlags.val = 1 ∧ key.getLsbD 23 = true) →
        exec (.lookup key) s
          = .next { s with answers := [{ request := .lookup key, resp := .lookupMiss, result := .index 0 }] })

/-- R172: ENCODE answers the codeword whose index is the lowest slot that agrees with the key in bits [23:0] and whose
other fields are the operands, with a zero gap, and LOOKUP_MISS with word 0 where no slot agrees. In a built table the key
of INVALID_V gives index 0. -/
def Obligations.EncodePacksTheOperands : Prop :=
  ∀ (s : State) (key : Entry) (cond : Cond) (s0 s1 d0 d1 : RegIdx) (i0 i1 : Imm),
    (s.state = .building → exec (.encode key cond s0 s1 d0 d1 i0 i1) s
        = .next { s with held := s.held ++ [.encode key cond s0 s1 d0 d1 i0 i1], answers := [] })
    ∧ (s.state = .failed → exec (.encode key cond s0 s1 d0 d1 i0 i1) s
        = .next { s with answers := [{ request := .encode key cond s0 s1 d0 d1 i0 i1, resp := .failed,
                                       result := .word 0 }] })
    ∧ (s.state = .ready → s.slotsWf = true → ∀ i : Slot,
        (readTable s.table i).toEntry.extractLsb' 0 24 = key.extractLsb' 0 24 →
        (∀ j : Slot, j < i → (readTable s.table j).toEntry.extractLsb' 0 24 ≠ key.extractLsb' 0 24) → ∃ w : Word,
        exec (.encode key cond s0 s1 d0 d1 i0 i1) s
          = .next { s with answers := [{ request := .encode key cond s0 s1 d0 d1 i0 i1, resp := .ok,
                                         result := .word w }] }
        ∧ w.extractLsb' 0 11 = i ∧ w.extractLsb' 11 2 = 0 ∧ w.extractLsb' 13 3 = cond
        ∧ w.extractLsb' 16 4 = s0 ∧ w.extractLsb' 20 4 = s1 ∧ w.extractLsb' 24 4 = d0 ∧ w.extractLsb' 28 4 = d1
        ∧ w.extractLsb' 32 16 = i0 ∧ w.extractLsb' 48 16 = i1)
    ∧ (s.state = .ready → s.slotsWf = true →
        (∀ j : Slot, (readTable s.table j).toEntry.extractLsb' 0 24 ≠ key.extractLsb' 0 24) →
        exec (.encode key cond s0 s1 d0 d1 i0 i1) s
          = .next { s with answers := [{ request := .encode key cond s0 s1 d0 d1 i0 i1, resp := .lookupMiss,
                                         result := .word 0 }] })
    ∧ (s.Inv → s.resetIn = false → s.state = .ready → key.extractLsb' 0 24 = 0 → ∃ w : Word,
        exec (.encode key cond s0 s1 d0 d1 i0 i1) s
          = .next { s with answers := [{ request := .encode key cond s0 s1 d0 d1 i0 i1, resp := .ok,
                                         result := .word w }] }
        ∧ w.extractLsb' 0 11 = 0)

/-- R173: on fields of unbounded width, the encode core answers LOOKUP_MISS before RANGE before OK, and its OK word has
the slot and the fields at their places. -/
def Obligations.EncodeCoreChecksLookupThenRange : Prop :=
  ∀ (t : List Variant) (x : DecodedInstr),
    (cam t x.variant = none → encCore t x = (.lookupMiss, 0))
    ∧ (∀ i, cam t x.variant = some i →
        2 ^ 3 ≤ x.cond ∨ 2 ^ 4 ≤ x.src0Reg ∨ 2 ^ 4 ≤ x.src1Reg ∨ 2 ^ 4 ≤ x.dst0Reg ∨ 2 ^ 4 ≤ x.dst1Reg
          ∨ 2 ^ 16 ≤ x.imm0 ∨ 2 ^ 16 ≤ x.imm1 → encCore t x = (.range, 0))
    ∧ (∀ i, cam t x.variant = some i →
        x.cond < 2 ^ 3 → x.src0Reg < 2 ^ 4 → x.src1Reg < 2 ^ 4 → x.dst0Reg < 2 ^ 4 → x.dst1Reg < 2 ^ 4 →
        x.imm0 < 2 ^ 16 → x.imm1 < 2 ^ 16 →
        ∃ w : Word, encCore t x = (.ok, w)
          ∧ w.toNat = i.toNat + x.cond * 2 ^ 13 + x.src0Reg * 2 ^ 16 + x.src1Reg * 2 ^ 20 + x.dst0Reg * 2 ^ 24
              + x.dst1Reg * 2 ^ 28 + x.imm0 * 2 ^ 32 + x.imm1 * 2 ^ 48)

/-- R174, R216: RANGE is never produced at the block's port, where every operand has its field's width. -/
def Obligations.NoInstructionAnswersRange : Prop :=
  ∀ (i : Instr) (s t : State), exec i s = .next t → ∀ a ∈ t.answers, a.resp ≠ .range

/-- R104: SUBVAR answers the sub-variant's record exactly if it exists and is available at the given version, whatever
CFG_VERSION is, and NOT_FOUND with zeros otherwise. -/
def Obligations.SubvarAnswersAvailableSubvariants : Prop :=
  ∀ (s : State) (f : Family) (sidx : SubIdx) (ver : Version),
    (s.state = .building → exec (.subvar f.tag sidx ver) s
        = .next { s with held := s.held ++ [.subvar f.tag sidx ver], answers := [] })
    ∧ (s.state = .failed → exec (.subvar f.tag sidx ver) s
        = .next { s with answers := [{ request := .subvar f.tag sidx ver, resp := .failed,
                                       result := .subvar zeroSubvar }] })
    ∧ (s.state = .ready → ∀ sd, (s.cfg.caps.get f).subs[sidx.toNat]? = some sd →
        (s.cfg.caps.get f).famMin ≤ ver → sd.subMin ≤ ver →
        ∃ r, exec (.subvar f.tag sidx ver) s
            = .next { s with answers := [{ request := .subvar f.tag sidx ver, resp := .ok, result := .subvar r }] }
          ∧ r = { sidx := sidx, subMin := sd.subMin, kernel := sd.kernel, staticOk := sd.staticOk,
                  priceFormula := sd.priceFormula, floor := sd.floor })
    ∧ (s.state = .ready →
        (∀ sd, (s.cfg.caps.get f).subs[sidx.toNat]? = some sd →
          ¬ (s.cfg.caps.get f).famMin ≤ ver ∨ ¬ sd.subMin ≤ ver) →
        exec (.subvar f.tag sidx ver) s
          = .next { s with answers := [{ request := .subvar f.tag sidx ver, resp := .notFound,
                                         result := .subvar zeroSubvar }] })

/-- R176: READ_CONST answers NOP_WORD for 0 and PANIC_WORD for 1. -/
def Obligations.ReadConstAnswersTheDerivedWords : Prop :=
  ∀ (s : State) (sel : BitVec 1),
    (s.state = .building → exec (.readConst sel) s
        = .next { s with held := s.held ++ [.readConst sel], answers := [] })
    ∧ (s.state = .failed → exec (.readConst sel) s
        = .next { s with answers := [{ request := .readConst sel, resp := .failed, result := .word 0 }] })
    ∧ (s.state = .ready → exec (.readConst 0) s
        = .next { s with answers := [{ request := .readConst 0, resp := .ok, result := .word s.nopWord }] })
    ∧ (s.state = .ready → exec (.readConst 1) s
        = .next { s with answers := [{ request := .readConst 1, resp := .ok, result := .word s.panicWord }] })

/-! ## The codeword rows -/

/-- R151, R153 to R155 for the sixteen family rows: in READY each answers OK with the codeword's own fields and the
outputs of the slot its index selects; where that slot holds the row's family, the variant's family field is its tag. In a
built block `kernel` and `static_ok` are those of the slot's ROM record. That a bare codeword is answered as DECODE answers
its word is the model's choice (log entry 5). -/
def Obligations.FamilyCodewordsDecodeToTheirSlot : Prop :=
  ∀ (s : State) (c : Codeword), s.state = .ready → ∀ p ∈ familyRows c, ∀ e, readTable s.table c.index = e →
    ∃ r : DecodeResult,
      exec p.1 s = .next { s with answers := [{ request := p.1, resp := .ok, result := .decode r }] }
      ∧ r = { index := c.index, variant := e.toEntry, src0Sel := srcSel e.src0, dst0Sel := dstSel e.dst0,
              cond := c.cond, src0Reg := c.src0Reg, src1Reg := c.src1Reg, dst0Reg := c.dst0Reg, dst1Reg := c.dst1Reg,
              imm0 := c.imm0, imm1 := c.imm1, price := readPriceSlot s.price c.index,
              kernel := (s.cfg.caps.attrs e.fam e.sub).kernel, staticOk := (s.cfg.caps.attrs e.fam e.sub).staticOk,
              nImm := BitVec.ofNat 2 (s.cfg.caps.get e.fam).nImm.val,
              nFlags := BitVec.ofNat 2 (s.cfg.caps.get e.fam).nFlags.val }
      ∧ (e.fam = p.2 → r.variant.extractLsb' 0 4 = p.2.tag)
      ∧ (s.Inv → s.resetIn = false → ∃ sd, (s.cfg.caps.get e.fam).subs[e.sub.toNat]? = some sd
          ∧ r.kernel = sd.kernel ∧ r.staticOk = sd.staticOk)

/-- R175: in a built block the two derived constants decode to the defined Nop and Panic instructions: Nop sub-variant 0
and Ret sub-variant PANIC_SUB, each with the first option of its classes and flags clear, the always-true condition, and
zero registers and immediates. That the two rows, presented as bare codewords, answer as a decode of NOP_WORD and
PANIC_WORD is the model's choice (log entry 5). -/
def Obligations.DerivedConstantsDecodeToNopAndPanic : Prop :=
  ∀ s : State, s.Inv → s.resetIn = false → s.state = .ready →
    ∀ p ∈ [(Instr.nopConst, Family.nop, (0 : SubIdx)), (Instr.panicConst, Family.ret, s.cfg.panicSub)],
      ∃ (r : DecodeResult) (d : DstMode),
        exec p.1 s = .next { s with answers := [{ request := p.1, resp := .ok, result := .decode r }] }
        ∧ ((s.cfg.caps.get p.2.1).dstClass s.cfgVersion).dstFirst = some d
        ∧ r.variant = ({ fam := p.2.1, sub := p.2.2, src0 := ((s.cfg.caps.get p.2.1).srcClass s.cfgVersion).srcFirst,
                         dst0 := d, flag1 := false, flag0 := false } : Variant).toEntry
        ∧ r.cond = s.cfg.condAlways ∧ r.src0Reg = 0 ∧ r.src1Reg = 0 ∧ r.dst0Reg = 0 ∧ r.dst1Reg = 0
        ∧ r.imm0 = 0 ∧ r.imm1 = 0

/-- The two non-canonical rows: in READY each answers NONCANONICAL with the OK result of word 0, as DECODE does (R85 (a),
R152). That a bare codeword is answered as DECODE answers it is the model's choice (log entry 5), and so is which of the
two rows a word with both gap bits set is (log entry 17). -/
def Obligations.NoncanonicalRowsAnswerMasked : Prop :=
  ∀ (s : State) (c : Codeword) (g : BitVec 1), s.state = .ready →
    ∀ i ∈ [Instr.noncanonicalGap11 c g, Instr.noncanonicalGap12 c], ∃ r,
      exec i s = .next { s with answers := [{ request := i, resp := .noncanonical, result := .decode r }] }
      ∧ exec (.decode 0) s = .next { s with answers := [{ request := .decode 0, resp := .ok, result := .decode r }] }

/-- The model's own convention, no rule of the spec: in READY the row that a bare codeword is read as answers what DECODE
answers for that word (log entry 5), whichever of the rows that match it is read (log entry 17). -/
def Obligations.CodewordRowAnswersAsDecode : Prop :=
  ∀ (s : State) (w : Word), s.state = .ready → ∃ c r,
    exec (.decode w) s = .next { s with answers := [{ request := .decode w, resp := c, result := r }] }
    ∧ exec (s.fetch (.cw w)) s = .next { s with answers := [{ request := s.fetch (.cw w), resp := c, result := r }] }

/-- R153, R154: the select lines of a canonical word are the ones the tables of R153 and R154 give for the class and
option codes of the selected slot, and they depend on the index alone. -/
def Obligations.SelectLinesFollowTheSlot : Prop :=
  ∀ (s : State) (w : Word), s.state = .ready → w.extractLsb' 11 2 = 0 → ∃ r,
    exec (.decode w) s = .next { s with answers := [{ request := .decode w, resp := .ok, result := .decode r }] }
    ∧ ((r.variant.extractLsb' 12 2).toNat, (r.variant.extractLsb' 14 3).toNat, r.src0Sel.toNat)
        ∈ [(0, 0, 0), (1, 0, 0), (1, 1, 1), (2, 0, 0), (2, 1, 2), (2, 2, 3), (2, 3, 4), (2, 4, 1), (2, 5, 5)]
    ∧ ((r.variant.extractLsb' 17 2).toNat, (r.variant.extractLsb' 19 3).toNat, r.dst0Sel.toNat)
        ∈ [(0, 0, 0), (2, 0, 0), (2, 1, 1), (2, 2, 2), (2, 3, 3)]
    ∧ (∀ w' : Word, w'.extractLsb' 11 2 = 0 → w'.extractLsb' 0 11 = w.extractLsb' 0 11 → ∃ r',
        exec (.decode w') s
          = .next { s with answers := [{ request := .decode w', resp := .ok, result := .decode r' }] }
        ∧ r'.src0Sel = r.src0Sel ∧ r'.dst0Sel = r.dst0Sel ∧ r'.variant = r.variant)

/-! ## What the states do to every command -/

/-- While BUILDING every command but STATUS and the reserved codes is held; those are answered at once; when the build ends
each held command is answered exactly once, by its rule in the new state; a reset drops them all (R244). That the answers
stand in the order of presentation is the model's choice, since the spec leaves the order open (R224, U16; log entry 10),
and that codeword rows are held as DECODE is is log entry 5. -/
def Obligations.HoldUntilTheBuildEnds : Prop :=
  (∀ (i : Instr) (s : State), s.state = .building → heldWhileBuilding i = true →
      exec i s = .next { s with held := s.held ++ [i], answers := [] })
  ∧ (∀ (i : Instr) (s : State), heldWhileBuilding i = false →
      ∃ c r, exec i s = .next { s with answers := [{ request := i, resp := c, result := r }] })
  ∧ (∀ s t : State, s.Inv → s.resetIn = false → s.state = .building →
      (s.inputs = [] ∨ ∃ rest, s.inputs = .tick :: rest) → step s = .next t →
      (t.state = .building → t.held = s.held ∧ t.answers = [])
      ∧ (t.state ≠ .building → t.held = [] ∧ t.answers.map (·.request) = s.held
          ∧ ∀ a ∈ t.answers, exec a.request t = .next { t with answers := [a] }))
  ∧ (∀ (s t : State) (rest : List Input), s.inputs = .assertReset :: rest → step s = .next t →
      t.held = [] ∧ t.answers = [])

/-- R213: in FAILED every command but STATUS and the reserved codes answers FAILED with its zero record, STATUS answers
OK with STATE 2 and the fault code, and no step but a reset release leaves FAILED. That a bare codeword is answered with
DECODE's zero record is the model's choice (log entry 5). The last clause takes in the step that asserts reset: that STATE
and FAULT keep their values there, where R240 calls them meaningless and R31 names only the release, is the model's choice
(log entry 11). -/
def Obligations.FailedServesNothing : Prop :=
  (∀ (i : Instr) (s : State), s.state = .failed → heldWhileBuilding i = true →
      exec i s = .next { s with answers := [{ request := i, resp := .failed, result := zeroRecord i }] })
  ∧ (∀ s : State, s.state = .failed → ∃ w : BitVec 32,
      exec .status s = .next { s with answers := [{ request := .status, resp := .ok, result := .status w }] }
      ∧ w.extractLsb' 0 2 = 2 ∧ w.extractLsb' 4 4 = faultCode s.fault)
  ∧ (∀ s t : State, s.state = .failed → s.resetIn = false → step s = .next t →
      t.state = .failed ∧ t.fault = s.fault)

/-- R40: in READY a command writes nothing but its response, and no step but a reset changes anything but the ports. -/
def Obligations.ReadyIsFrozenUntilReset : Prop :=
  (∀ (i : Instr) (s t : State), s.state = .ready → exec i s = .next t → t = { s with answers := t.answers })
  ∧ (∀ s t : State, s.state = .ready → s.resetIn = false → (∀ rest, s.inputs ≠ .assertReset :: rest) →
      step s = .next t →
      t = { s with inputs := s.inputs.tail, answers := t.answers, cfgInput := t.cfgInput })

/-- R221, R40, R244: the frame of every instruction: it answers a next state, which differs from the old one at most in
the response port, and, while BUILDING, in the held commands; it gives at most one answer, to itself. -/
def Obligations.EveryInstructionOnlyAnswersOrIsHeld : Prop :=
  ∀ (i : Instr) (s : State), ∃ t, exec i s = .next t
    ∧ t = { s with held := t.held, answers := t.answers }
    ∧ (s.state ≠ .building → t.held = s.held)
    ∧ (t.held = s.held ∧ (∃ a, t.answers = [a] ∧ a.request = i) ∨ t.held = s.held ++ [i] ∧ t.answers = [])

/-- R224, R56: out of BUILDING the response to a command does not depend on the commands answered before it. -/
def Obligations.ResponsesDoNotDependOnOrder : Prop :=
  ∀ (i j : Instr) (s t : State), s.state ≠ .building → exec i s = .next t →
    ∃ a, exec j s = .next { s with answers := [a] } ∧ exec j t = .next { t with answers := [a] }

/-- R56: along every run from a reset release, whenever a table command is answered with anything but FAILED, the tables
are the whole result of a successful build of the configuration at the sampled version. -/
def Obligations.AnswersComeFromAWholeBuild : Prop :=
  ∀ s t : State, Reachable s → step s = .next t → ∀ a ∈ t.answers, heldWhileBuilding a.request = true →
    a.resp ≠ .failed → t.state = .ready ∧ build t.cfg t.cfgVersion = .ok t.tables

/-- R39, U7: what TABLE, PRICE, NOP_WORD and PANIC_WORD hold before the build commits, after a failed build, or under
reset reaches nothing: two such states that differ only there step to states that differ at most there, and not at all
once the block is READY. -/
def Obligations.UnreadableTablesReachNothing : Prop :=
  ∀ s t s' : State, SameButTables s t → (s.state ≠ .ready ∨ s.resetIn = true) → step s = .next s' →
    ∃ t', step t = .next t' ∧ SameButTables s' t' ∧ (s'.state = .ready → s.resetIn = false → s' = t')

/-! ## Steps, reset and the configuration -/

/-- The step runs the instruction the port carries: out of reset, with a configuration within the premises of R25, a
request that is next is removed from the inputs and served by `exec` of what the decoder reads from it. -/
def Obligations.StepRunsTheDecodedInstruction : Prop :=
  ∀ (s : State) (p : PortWord) (rest : List Input) (i : Instr), s.cfg.wf = true → s.resetIn = false →
    s.inputs = .request p :: rest → decode s.cwContext p = i → wellFormed s.cwContext i = true →
    step s = exec i { s with inputs := rest }

/-- A request presented under reset is dropped without a response (R240); an assertion of reset drops the held commands and
aborts the build, and whatever release follows starts the build of the configuration afresh (R247). That the registers
stay as they are under reset, where R240 calls them meaningless, is the model's choice (log entry 11). -/
def Obligations.ResetDropsEverything : Prop :=
  (∀ (s : State) (p : PortWord) (rest : List Input), s.cfg.wf = true → s.resetIn = true →
      s.inputs = .request p :: rest → step s = .next { s with inputs := rest, answers := [] })
  ∧ (∀ (s : State) (rest : List Input), s.cfg.wf = true → s.inputs = .assertReset :: rest →
      ∃ t, step s = .next t ∧ t.resetIn = true ∧ t.held = [] ∧ t.answers = [] ∧ t.acc = [] ∧ t.found = none)
  ∧ (∀ (s : State) (rest : List Input), s.cfg.wf = true → s.resetIn = true → s.inputs = .releaseReset :: rest →
      ∃ t, step s = .next t ∧ t.state = .building ∧ t.resume = build s.cfg s.cfgInput ∧ t.held = [] ∧ t.answers = [])

/-- The release of reset samples CFG_VERSION and sets STATE, FAULT and COUNT; a change of the CFG_VERSION input changes that
input alone (R241). That the tables, which R241 does not clear and calls unspecified, hold after the release what they
held before is the model's choice (log entry 2), and so are the place and the hidden state the build starts with (log
entry 8). -/
def Obligations.ResetReleaseSamplesTheVersion : Prop :=
  (∀ (s : State) (rest : List Input), s.cfg.wf = true → s.resetIn = true → s.inputs = .releaseReset :: rest →
      ∃ t, step s = .next t ∧ t.resetIn = false ∧ t.cfgVersion = s.cfgInput ∧ t.state = .building ∧ t.fault = none
        ∧ t.count = 0 ∧ t.phase = .validate ∧ t.found = none ∧ t.table = s.table ∧ t.price = s.price
        ∧ t.nopWord = s.nopWord ∧ t.panicWord = s.panicWord ∧ t.cfg = s.cfg)
  ∧ (∀ (s : State) (v : Version) (rest : List Input), s.cfg.wf = true → s.inputs = .driveCfgVersion v :: rest →
      step s = .next { s with cfgInput := v, inputs := rest, answers := [] })

/-- R25, U8: a configuration outside the premises is refused as a whole; within them no step is refused and none
faults. That it is every step that refuses is the model's reading (log entry 15). -/
def Obligations.OnlyABadConfigurationIsRefused : Prop :=
  ∀ s : State,
    (s.cfg.versions = [] ∨ ¬ s.cfg.versions.Pairwise (· < ·)
        ∨ (∃ f, (s.cfg.caps.get f).subs.length < 1 ∨ 256 < (s.cfg.caps.get f).subs.length)
        ∨ s.cfg.caps.ret.subs.length ≤ s.cfg.panicSub.toNat →
      step s = .refused .configPremise)
    ∧ (s.cfg.versions ≠ [] → s.cfg.versions.Pairwise (· < ·) →
        (∀ f, 1 ≤ (s.cfg.caps.get f).subs.length ∧ (s.cfg.caps.get f).subs.length ≤ 256) →
        s.cfg.panicSub.toNat < s.cfg.caps.ret.subs.length → ∃ t, step s = .next t)

/-- R31: STATE moves only from BUILDING to READY or FAILED, and to BUILDING by a reset release. That it keeps its value when
reset is asserted and while it is, where R240 calls it meaningless, is the model's choice (log entry 11). -/
def Obligations.StateMovesOnlyAsSpecified : Prop :=
  ∀ s t : State, step s = .next t → t.state = s.state
    ∨ (s.state = .building ∧ s.resetIn = false ∧ (t.state = .ready ∨ t.state = .failed))
    ∨ (s.resetIn = true ∧ t.state = .building ∧ ∃ rest, s.inputs = .releaseReset :: rest)

/-! ## The invariant -/

/-- Every step keeps the invariant: the 2048 slots, the meaning of FAULT and COUNT, READY as the result of a successful
build, FAILED as that of a failed one, a build under way on the way to its result (R27, R28, R31, R32, R39, R139). -/
def Obligations.StepKeepsInvariant : Prop :=
  ∀ s t : State, s.Inv → step s = .next t → t.Inv

/-- The state State.reset names has the invariant. The configuration in it is the model's choice (log entry 1). -/
def Obligations.ResetStateHasInvariant : Prop := State.reset.Inv

/-- Every state right after a reset release, in every configuration within the premises, has the invariant. -/
def Obligations.ReleaseHasInvariant : Prop := ∀ s : State, AtRelease s → s.Inv

/-! ## The build -/

/-- Raising a build fault sets FAULT, clears COUNT and makes STATE FAILED, in one step; the codes are 1 to 8 (R211). That a
fault found by one step is raised by the next is the model's sequencing (log entry 8), and that TABLE, PRICE and the derived
words keep what they held is the model's choice where the spec leaves them unspecified and unreadable (R39; log entry
18). -/
def Obligations.BuildFaultIsRaisedInOneStep : Prop :=
  (∀ (s t : State) (f : BuildFault), s.resetIn = false → s.state = .building → s.found = some f → s.inputs = [] →
      step s = .next t → t.fault = some f ∧ t.count = 0 ∧ t.state = .failed ∧ t.table = s.table ∧ t.price = s.price
        ∧ t.nopWord = s.nopWord ∧ t.panicWord = s.panicWord ∧ t.cfg = s.cfg ∧ t.cfgVersion = s.cfgVersion)
  ∧ [BuildFault.dupFamilyName, .unknownVersion, .illegalDescriptor, .missingPredecessor, .densityMismatch,
      .slot0NotInvalid, .tableOverflow, .derivedConstMiss].map (fun f => (faultCode (some f)).toNat)
      = [1, 2, 3, 4, 5, 6, 7, 8]
  ∧ faultCode none = 0

/-- R122: VALIDATE's three checks and their order, as the build reports them; where all pass, the build reports none of
their faults. -/
def Obligations.ValidationFaultsInOrder : Prop :=
  ∀ (cfg : Configuration) (v : Version),
    ((∃ f g : Family, f ≠ g ∧ (cfg.caps.get f).name = (cfg.caps.get g).name) →
      build cfg v = .error .dupFamilyName)
    ∧ ((∀ f g : Family, f ≠ g → (cfg.caps.get f).name ≠ (cfg.caps.get g).name) →
        v ∉ cfg.versions → build cfg v = .error .unknownVersion)
    ∧ ((∀ f g : Family, f ≠ g → (cfg.caps.get f).name ≠ (cfg.caps.get g).name) → v ∈ cfg.versions →
        (∃ u ∈ cfg.versions, u ≤ v ∧ ∃ f, (cfg.caps.get f).famMin ≤ u ∧ (cfg.caps.get f).dstClass u = .regOrImm16) →
        build cfg v = .error .illegalDescriptor)
    ∧ ((∀ f g : Family, f ≠ g → (cfg.caps.get f).name ≠ (cfg.caps.get g).name) → v ∈ cfg.versions →
        (∀ u ∈ cfg.versions, u ≤ v → ∀ f, (cfg.caps.get f).famMin ≤ u → (cfg.caps.get f).dstClass u ≠ .regOrImm16) →
        build cfg v ≠ .error .dupFamilyName ∧ build cfg v ≠ .error .unknownVersion
          ∧ build cfg v ≠ .error .illegalDescriptor)

/-- R127, R131, R132, R135, R212: where VALIDATE passes, the first failing check of the rest of R121 is what the build
reports: a missing predecessor at some version up to CFG_VERSION; then an accumulator that does not start with INVALID_V;
then more than 2048 entries; then a derived constant in no entry. Where none fails the build succeeds. -/
def Obligations.LaterFaultsInOrder : Prop :=
  ∀ (cfg : Configuration) (v : Version), cfg.wf = true → Validated cfg v →
    (LacksPredecessor cfg v → build cfg v = .error .missingPredecessor)
    ∧ (¬ LacksPredecessor cfg v → ∃ acc, accumulatorAt cfg v = .ok acc
      ∧ (acc.head? ≠ some invalidV → build cfg v = .error .slot0NotInvalid)
      ∧ (acc.head? = some invalidV → 2048 < acc.length → build cfg v = .error .tableOverflow)
      ∧ (acc.head? = some invalidV → acc.length ≤ 2048 →
          ¬ HoldsDerived cfg v acc .nop 0 ∨ ¬ HoldsDerived cfg v acc .ret cfg.panicSub →
          build cfg v = .error .derivedConstMiss)
      ∧ (acc.head? = some invalidV → acc.length ≤ 2048 →
          HoldsDerived cfg v acc .nop 0 → HoldsDerived cfg v acc .ret cfg.panicSub → ∃ T, build cfg v = .ok T))

/-- R242, R121, R140: from every state of a build under way, with nothing arriving, the block leaves BUILDING within as
many steps as there are versions and five more, in READY with what BUILD gives, or in FAILED with BUILD's fault. The bound
is the model's own sequencing (log entry 8). -/
def Obligations.BuildEndsWithTheSpecifiedOutcome : Prop :=
  ∀ s : State, s.Inv → s.resetIn = false → s.state = .building → s.inputs = [] →
    ∃ (n : Nat) (t : State), n ≤ s.cfg.versions.length + 5 ∧ Sys2Proof.core.run n s = .next t
      ∧ (∀ T, build s.cfg s.cfgVersion = .ok T → t.state = .ready ∧ t.fault = none ∧ t.tables = T)
      ∧ (∀ f, build s.cfg s.cfgVersion = .error f → t.state = .failed ∧ t.fault = some f ∧ t.count = 0)

/-- R123, R125: the enumeration of a version has as many elements as the density formula says. -/
def Obligations.EnumerationHasTheDensity : Prop :=
  ∀ (c : Caps) (v : Version), (enum c v).length = density c v

/-- R138: after a successful build the synthesized entries are pairwise distinct and not semantically equal, and no
configuration within the premises makes the build fail with DENSITY_MISMATCH. -/
def Obligations.SynthesizedEntriesAreDistinct : Prop :=
  ∀ (cfg : Configuration) (v : Version), cfg.wf = true →
    (∀ T, build cfg v = .ok T → ∀ i j : Nat, i < j → j < T.count.toNat →
      T.table.getD i invalidV ≠ T.table.getD j invalidV
      ∧ semEq (T.table.getD i invalidV) (T.table.getD j invalidV) = false)
    ∧ build cfg v ≠ .error .densityMismatch

/-- R137: index stability. Builds of one configuration at two versions agree, up to semantic equality, on every entry of
the earlier one. -/
def Obligations.IndicesAreStableAcrossVersions : Prop :=
  ∀ (cfg : Configuration) (v0 v1 : Version) (T0 T1 : Tables), cfg.wf = true → v0 < v1 →
    build cfg v0 = .ok T0 → build cfg v1 = .ok T1 →
    T0.count ≤ T1.count
    ∧ ∀ i : Nat, i < T0.count.toNat → semEq (T0.table.getD i invalidV) (T1.table.getD i invalidV) = true

/-- R130: registry versions above CFG_VERSION have no part in the build. -/
def Obligations.LaterVersionsHaveNoPart : Prop :=
  ∀ (cfg : Configuration) (v : Version), cfg.wf = true →
    build { cfg with versions := cfg.versions.filter (fun u => decide (u ≤ v)) } v = build cfg v

/-- R100, R125: the enumeration of a version holds exactly the Variants of the sub-variants available at it, with every
source and destination option of its classes there and every combination of its declared flags, and it holds them in the
order tag, sub-variant, source option, destination option, flags as a binary counter with flag0 fastest. -/
def Obligations.EnumerationListsTheVariantsInOrder : Prop :=
  ∀ (cfg : Configuration) (v : Version), cfg.wf = true →
    (∀ x : Variant, x ∈ enum cfg.caps v ↔
      (∃ sd, (cfg.caps.get x.fam).subs[x.sub.toNat]? = some sd ∧ (cfg.caps.get x.fam).famMin ≤ v ∧ sd.subMin ≤ v)
      ∧ x.src0.classCode = classCode ((cfg.caps.get x.fam).srcClass v)
      ∧ x.dst0.classCode = classCode ((cfg.caps.get x.fam).dstClass v)
      ∧ ((cfg.caps.get x.fam).nFlags.val = 0 → x.flag0 = false)
      ∧ ((cfg.caps.get x.fam).nFlags.val ≤ 1 → x.flag1 = false))
    ∧ (enum cfg.caps v).Pairwise (fun a b => enumKey a < enumKey b)

/-- R126 to R130: the fold starts with the enumeration of the earliest version; each later registry version either ends it
with MISSING_PREDECESSOR or overwrites every entry in place by its semantic counterpart in that version's enumeration and
appends the entries without a predecessor in the enumeration's order. An earlier fault stays. -/
def Obligations.LaterVersionsAreMergedInOrder : Prop :=
  ∀ cfg : Configuration, cfg.wf = true →
    (∀ v, cfg.versions.head? = some v → accumulatorAt cfg v = .ok (enum cfg.caps v))
    ∧ ∀ pre post u v, cfg.versions = pre ++ u :: v :: post →
      (∀ e, accumulatorAt cfg u = .error e → accumulatorAt cfg v = .error e)
      ∧ ∀ a, accumulatorAt cfg u = .ok a →
        ((∃ x ∈ a, ∀ y ∈ enum cfg.caps v, semEq x y = false) → accumulatorAt cfg v = .error .missingPredecessor)
        ∧ ((∀ x ∈ a, ∃ y ∈ enum cfg.caps v, semEq x y = true) → ∃ b, accumulatorAt cfg v = .ok b
            ∧ b.length = density cfg.caps v
            ∧ (∀ (i : Nat) (x : Variant), a[i]? = some x → ∃ y ∈ enum cfg.caps v, b[i]? = some y ∧ semEq x y = true)
            ∧ b.drop a.length = (enum cfg.caps v).filter (fun y => a.all (fun x => !semEq x y)))

/-- R27, R28, R29, R51, R133, R134: the tables a successful build writes: 2048 slots, the accumulator of the fold in the
slots below COUNT in its order and INVALID_V from there on, slot 0 INVALID_V, COUNT from 1 to 2048, and PRICE the price of
each slot's variant. At the earliest version the slots below COUNT are the enumeration (R126, R130). What the enumeration
and the accumulators of later versions are say the two statements before this one. -/
def Obligations.BuiltTablesHaveTheSpecifiedShape : Prop :=
  ∀ (cfg : Configuration) (v : Version) (T : Tables), build cfg v = .ok T →
    T.table.length = 2048 ∧ T.price.length = 2048 ∧ 1 ≤ T.count.toNat ∧ T.count.toNat ≤ 2048
    ∧ readTable T.table 0 = invalidV
    ∧ (∀ i : Slot, T.count.toNat ≤ i.toNat → readTable T.table i = invalidV)
    ∧ (∀ i : Slot, readPriceSlot T.price i = priceOf cfg.caps (readTable T.table i))
    ∧ accumulatorAt cfg v = .ok (T.table.take T.count.toNat)
    ∧ (cfg.wf = true → cfg.versions.head? = some v → T.table.take T.count.toNat = enum cfg.caps v)

/-- R190, R195: in a built block every slot's sub-variant has a ROM record, and its price is the maximum for Invalid and
otherwise the larger of the record's formula price and floor, so never below the floor, and the same for every slot of
one sub-variant. -/
def Obligations.PricesFollowTheDescriptor : Prop :=
  ∀ (s : State) (i : Slot), s.Inv → s.resetIn = false → s.state = .ready → ∃ p sd,
    exec (.readPrice i) s = .next { s with answers := [{ request := .readPrice i, resp := .ok, result := .price p }] }
    ∧ (s.cfg.caps.get (readTable s.table i).fam).subs[(readTable s.table i).sub.toNat]? = some sd
    ∧ ((readTable s.table i).fam = .invalid → p.toNat = 2 ^ 32 - 1)
    ∧ ((readTable s.table i).fam ≠ .invalid → p.toNat = max sd.priceFormula.toNat sd.floor.toNat)
    ∧ sd.floor.toNat ≤ p.toNat
    ∧ (∀ j : Slot, (readTable s.table j).fam = (readTable s.table i).fam →
        (readTable s.table j).sub = (readTable s.table i).sub → readPriceSlot s.price j = p)

/-- R124: semantic equality is reflexive and symmetric, and it relates two variants exactly when they agree in all but the
source mode and their source modes are equal or are the two register-only spellings. -/
def Obligations.SemanticEqualityIsAsSpecified : Prop :=
  (∀ a : Variant, semEq a a = true) ∧ (∀ a b : Variant, semEq a b = semEq b a)
  ∧ (∀ a b : Variant, semEq a b = true ↔
      (a.fam = b.fam ∧ a.sub = b.sub ∧ a.flag1 = b.flag1 ∧ a.flag0 = b.flag0 ∧ a.dst0 = b.dst0
        ∧ (a.src0 = b.src0 ∨ (a.src0 = .regOnly ∧ b.src0 = .regOrImmReg) ∨ (a.src0 = .regOrImmReg ∧ b.src0 = .regOnly))))

/-! ## The CAM and the codec laws -/

/-- R170, R60: on a table of 2048 slots the CAM gives the answer of a linear search: the lowest slot that holds the key,
and a miss exactly if no slot does; with INVALID_V in slot 0, INVALID_V is found at 0. -/
def Obligations.CamIsALinearSearch : Prop :=
  ∀ (t : List Variant) (key : Variant), t.length = 2048 →
    (∀ i : Slot, cam t key = some i ↔ readTable t i = key ∧ ∀ j : Slot, j < i → readTable t j ≠ key)
    ∧ (cam t key = none ↔ ∀ j : Slot, readTable t j ≠ key)
    ∧ (readTable t 0 = invalidV → cam t invalidV = some 0)

/-- R177: in a built block, encoding an instruction whose variant is a synthesized slot's and decoding the word gives the
slot's index and the same variant, condition, registers and immediates. -/
def Obligations.EncodeThenDecodeGivesTheInstruction : Prop :=
  ∀ (s : State) (i : Slot) (key : Entry) (cond : Cond) (s0 s1 d0 d1 : RegIdx) (i0 i1 : Imm),
    s.Inv → s.resetIn = false → s.state = .ready → i.toNat < s.count.toNat →
    key.extractLsb' 0 24 = (readTable s.table i).toEntry.extractLsb' 0 24 →
    ∃ (w : Word) (r : DecodeResult),
      exec (.encode key cond s0 s1 d0 d1 i0 i1) s
        = .next { s with answers := [{ request := .encode key cond s0 s1 d0 d1 i0 i1, resp := .ok, result := .word w }] }
      ∧ exec (.decode w) s = .next { s with answers := [{ request := .decode w, resp := .ok, result := .decode r }] }
      ∧ r.index = i ∧ r.variant = (readTable s.table i).toEntry ∧ r.cond = cond ∧ r.src0Reg = s0 ∧ r.src1Reg = s1
      ∧ r.dst0Reg = d0 ∧ r.dst1Reg = d1 ∧ r.imm0 = i0 ∧ r.imm1 = i1

/-- R178: in a built block, decoding a canonical word and encoding the result gives the word again, with the index
replaced by 0 where it selects a padding slot; no word ENCODE answers is non-canonical. -/
def Obligations.DecodeThenEncodeGivesTheWord : Prop :=
  ∀ (s : State) (w : Word), s.Inv → s.resetIn = false → s.state = .ready →
    (w.extractLsb' 11 2 = 0 → ∃ (r : DecodeResult) (w' : Word),
      exec (.decode w) s = .next { s with answers := [{ request := .decode w, resp := .ok, result := .decode r }] }
      ∧ exec (.encode r.variant r.cond r.src0Reg r.src1Reg r.dst0Reg r.dst1Reg r.imm0 r.imm1) s
          = .next { s with answers := [{ request := .encode r.variant r.cond r.src0Reg r.src1Reg r.dst0Reg r.dst1Reg
                                                      r.imm0 r.imm1, resp := .ok, result := .word w' }] }
      ∧ ((w.extractLsb' 0 11).toNat < s.count.toNat → w' = w)
      ∧ (s.count.toNat ≤ (w.extractLsb' 0 11).toNat → w' = w &&& 0xFFFFFFFFFFFFF800#64))
    ∧ (w.extractLsb' 11 2 ≠ 0 → ∀ (key : Entry) (cond : Cond) (s0 s1 d0 d1 : RegIdx) (i0 i1 : Imm) (c : RespCode),
        exec (.encode key cond s0 s1 d0 d1 i0 i1) s
          ≠ .next { s with answers := [{ request := .encode key cond s0 s1 d0 d1 i0 i1, resp := c, result := .word w }] })

/-- R179: in a built block, a spelling that the accumulator of an earlier version holds at an index, and that has been
overwritten since, is in no slot: LOOKUP and ENCODE of it answer LOOKUP_MISS. The build at the earlier version need not
succeed. -/
def Obligations.SupersededSpellingsMiss : Prop :=
  ∀ (s : State) (v0 : Version) (acc0 : List Variant) (i : Nat) (x : Variant), s.Inv → s.resetIn = false →
    s.state = .ready → v0 < s.cfgVersion → accumulatorAt s.cfg v0 = .ok acc0 → acc0[i]? = some x →
    s.table[i]? ≠ some x →
    (∀ j : Slot, readTable s.table j ≠ x)
    ∧ ∀ (key : Entry), key.extractLsb' 0 24 = x.toEntry.extractLsb' 0 24 →
      exec (.lookup key) s
        = .next { s with answers := [{ request := .lookup key, resp := .lookupMiss, result := .index 0 }] }
      ∧ ∀ (cond : Cond) (s0 s1 d0 d1 : RegIdx) (i0 i1 : Imm), exec (.encode key cond s0 s1 d0 d1 i0 i1) s
          = .next { s with answers := [{ request := .encode key cond s0 s1 d0 d1 i0 i1, resp := .lookupMiss,
                                         result := .word 0 }] }

/-- R79: ENTRY and VARIANT: the fields of an ENTRY stand at their places with bits [31:24] zero, reading an ENTRY gives
the Variant back whatever bits [31:24] are, and a key that names a Variant is that Variant's ENTRY in bits [23:0]. -/
def Obligations.EntryFormatIsFaithful : Prop :=
  (∀ v : Variant, v.toEntry.extractLsb' 0 4 = v.fam.tag ∧ v.toEntry.extractLsb' 4 8 = v.sub
    ∧ v.toEntry.extractLsb' 12 2 = v.src0.classCode ∧ v.toEntry.extractLsb' 14 3 = v.src0.optCode
    ∧ v.toEntry.extractLsb' 17 2 = v.dst0.classCode ∧ v.toEntry.extractLsb' 19 3 = v.dst0.optCode
    ∧ v.toEntry.getLsbD 22 = v.flag0 ∧ v.toEntry.getLsbD 23 = v.flag1 ∧ v.toEntry.extractLsb' 24 8 = 0)
  ∧ (∀ (v : Variant) (hi : BitVec 8), Variant.ofEntry (hi ++ v.toEntry.extractLsb' 0 24) = some v)
  ∧ (∀ (e : Entry) (v : Variant), Variant.ofEntry e = some v → v.toEntry = 0#8 ++ e.extractLsb' 0 24)
  ∧ invalidV.toEntry = 0

/-- R106, R23: a sub-variant that SUBVAR finds at one version it finds at every later one, with the same record. -/
def Obligations.SubvarAnswersAreStable : Prop :=
  ∀ (s : State) (f : BitVec 4) (sidx : SubIdx) (v v' : Version) (r : Result), s.state = .ready → v ≤ v' →
    exec (.subvar f sidx v) s
      = .next { s with answers := [{ request := .subvar f sidx v, resp := .ok, result := r }] } →
    exec (.subvar f sidx v') s
      = .next { s with answers := [{ request := .subvar f sidx v', resp := .ok, result := r }] }

/-! ## Encoding -/

/-- Decode and encode agree: every well-formed instruction, of every family, is what the decoder reads from its own
bits. The operand places of a request are the model's (log entry 6), those of a codeword the spec's (R70). -/
def Obligations.DecodeOfEncodeIsTheInstruction : Prop :=
  ∀ (ctx : CwContext) (i : Instr), wellFormed ctx i = true → decode ctx (encode ctx i) = i

/-- Each codeword has one reading: in a built context the row read from a codeword is well formed and its bits are that
codeword. Which row is read where several match is the model's choice (log entry 17). -/
def Obligations.EncodeOfDecodedCodewordIsTheWord : Prop :=
  ∀ (ctx : CwContext) (w : Word), ctx.ready = true →
    wellFormed ctx (decode ctx (.cw w)) = true ∧ encode ctx (decode ctx (.cw w)) = .cw w

/-- R81, R85 (d): the command code of a request says which row it is, and every row of format REQ has a request word with
its code that is read as it. -/
def Obligations.CommandCodesSelectTheRow : Prop :=
  ∀ ctx : CwContext,
    (∀ b : BitVec 87, commandCode (decode ctx (.req b)) = some (b.extractLsb' 0 4))
    ∧ (∀ (i : Instr) (c : BitVec 4), commandCode i = some c →
        ∃ b : BitVec 87, b.extractLsb' 0 4 = c ∧ decode ctx (.req b) = i)

/-- In the TOY build at version 1 some words written out from the layout of R70 are read as the rows they stand for (R83).
TOY is the spec's own configuration (95_test_vectors.md section 2); that decodeTableWord reads in it is log entry 1. That
rows of at most 8 bits are requests and longer ones codewords is the model's choice (log entry 7), and so are the places
of a request's command code and operands (log entry 6). The word 0x14 matches the row of family Ret too, whose slot 20 it
selects; that it is read as the PANIC constant is the model's order of the rows (log entry 17). -/
def Obligations.SomeWordsDecodeAsWritten : Prop :=
  decodeTableWord 64 0x10002
      = some (.add { index := 2, cond := 0, src0Reg := 1, src1Reg := 0, dst0Reg := 0, dst1Reg := 0, imm0 := 0, imm1 := 0 })
  ∧ decodeTableWord 64 0xBEEF12346543A017
      = some (.log { index := 23, cond := 5, src0Reg := 3, src1Reg := 4, dst0Reg := 5, dst1Reg := 6, imm0 := 0x1234,
                     imm1 := 0xBEEF })
  ∧ decodeTableWord 64 0x14 = some .panicConst
  ∧ decodeTableWord 8 0x8 = some (.readConst 0)
end

