-- ==== Sys2Proof/Laws/State.lean ====
section
/-! SUPPORT. One lemma per field of State per update of Machine/Ops.lean, Machine/Build.lean and Machine/Events.lean, so
that no later proof unfolds a record update. -/

namespace Sys2Proof.Machine

open Sys2Proof

variable (s : State)

@[simp] theorem State.answer_cfg (i : Instr) (c : RespCode) (r : Result) : (s.answer i c r).cfg = s.cfg := rfl
@[simp] theorem State.answer_cfgInput (i : Instr) (c : RespCode) (r : Result) : (s.answer i c r).cfgInput = s.cfgInput := rfl
@[simp] theorem State.answer_resetIn (i : Instr) (c : RespCode) (r : Result) : (s.answer i c r).resetIn = s.resetIn := rfl
@[simp] theorem State.answer_cfgVersion (i : Instr) (c : RespCode) (r : Result) : (s.answer i c r).cfgVersion = s.cfgVersion := rfl
@[simp] theorem State.answer_state (i : Instr) (c : RespCode) (r : Result) : (s.answer i c r).state = s.state := rfl
@[simp] theorem State.answer_fault (i : Instr) (c : RespCode) (r : Result) : (s.answer i c r).fault = s.fault := rfl
@[simp] theorem State.answer_count (i : Instr) (c : RespCode) (r : Result) : (s.answer i c r).count = s.count := rfl
@[simp] theorem State.answer_table (i : Instr) (c : RespCode) (r : Result) : (s.answer i c r).table = s.table := rfl
@[simp] theorem State.answer_price (i : Instr) (c : RespCode) (r : Result) : (s.answer i c r).price = s.price := rfl
@[simp] theorem State.answer_nopWord (i : Instr) (c : RespCode) (r : Result) : (s.answer i c r).nopWord = s.nopWord := rfl
@[simp] theorem State.answer_panicWord (i : Instr) (c : RespCode) (r : Result) : (s.answer i c r).panicWord = s.panicWord := rfl
@[simp] theorem State.answer_acc (i : Instr) (c : RespCode) (r : Result) : (s.answer i c r).acc = s.acc := rfl
@[simp] theorem State.answer_verIdx (i : Instr) (c : RespCode) (r : Result) : (s.answer i c r).verIdx = s.verIdx := rfl
@[simp] theorem State.answer_found (i : Instr) (c : RespCode) (r : Result) : (s.answer i c r).found = s.found := rfl
@[simp] theorem State.answer_phase (i : Instr) (c : RespCode) (r : Result) : (s.answer i c r).phase = s.phase := rfl
@[simp] theorem State.answer_held (i : Instr) (c : RespCode) (r : Result) : (s.answer i c r).held = s.held := rfl
@[simp] theorem State.answer_inputs (i : Instr) (c : RespCode) (r : Result) : (s.answer i c r).inputs = s.inputs := rfl
@[simp] theorem State.answer_answers (i : Instr) (c : RespCode) (r : Result) : (s.answer i c r).answers = [{ request := i, resp := c, result := r }] := rfl

@[simp] theorem State.hold_cfg (i : Instr) : (s.hold i).cfg = s.cfg := rfl
@[simp] theorem State.hold_cfgInput (i : Instr) : (s.hold i).cfgInput = s.cfgInput := rfl
@[simp] theorem State.hold_resetIn (i : Instr) : (s.hold i).resetIn = s.resetIn := rfl
@[simp] theorem State.hold_cfgVersion (i : Instr) : (s.hold i).cfgVersion = s.cfgVersion := rfl
@[simp] theorem State.hold_state (i : Instr) : (s.hold i).state = s.state := rfl
@[simp] theorem State.hold_fault (i : Instr) : (s.hold i).fault = s.fault := rfl
@[simp] theorem State.hold_count (i : Instr) : (s.hold i).count = s.count := rfl
@[simp] theorem State.hold_table (i : Instr) : (s.hold i).table = s.table := rfl
@[simp] theorem State.hold_price (i : Instr) : (s.hold i).price = s.price := rfl
@[simp] theorem State.hold_nopWord (i : Instr) : (s.hold i).nopWord = s.nopWord := rfl
@[simp] theorem State.hold_panicWord (i : Instr) : (s.hold i).panicWord = s.panicWord := rfl
@[simp] theorem State.hold_acc (i : Instr) : (s.hold i).acc = s.acc := rfl
@[simp] theorem State.hold_verIdx (i : Instr) : (s.hold i).verIdx = s.verIdx := rfl
@[simp] theorem State.hold_found (i : Instr) : (s.hold i).found = s.found := rfl
@[simp] theorem State.hold_phase (i : Instr) : (s.hold i).phase = s.phase := rfl
@[simp] theorem State.hold_held (i : Instr) : (s.hold i).held = s.held ++ [i] := rfl
@[simp] theorem State.hold_inputs (i : Instr) : (s.hold i).inputs = s.inputs := rfl
@[simp] theorem State.hold_answers (i : Instr) : (s.hold i).answers = [] := rfl

@[simp] theorem State.quiet_cfg : (s.quiet).cfg = s.cfg := rfl
@[simp] theorem State.quiet_cfgInput : (s.quiet).cfgInput = s.cfgInput := rfl
@[simp] theorem State.quiet_resetIn : (s.quiet).resetIn = s.resetIn := rfl
@[simp] theorem State.quiet_cfgVersion : (s.quiet).cfgVersion = s.cfgVersion := rfl
@[simp] theorem State.quiet_state : (s.quiet).state = s.state := rfl
@[simp] theorem State.quiet_fault : (s.quiet).fault = s.fault := rfl
@[simp] theorem State.quiet_count : (s.quiet).count = s.count := rfl
@[simp] theorem State.quiet_table : (s.quiet).table = s.table := rfl
@[simp] theorem State.quiet_price : (s.quiet).price = s.price := rfl
@[simp] theorem State.quiet_nopWord : (s.quiet).nopWord = s.nopWord := rfl
@[simp] theorem State.quiet_panicWord : (s.quiet).panicWord = s.panicWord := rfl
@[simp] theorem State.quiet_acc : (s.quiet).acc = s.acc := rfl
@[simp] theorem State.quiet_verIdx : (s.quiet).verIdx = s.verIdx := rfl
@[simp] theorem State.quiet_found : (s.quiet).found = s.found := rfl
@[simp] theorem State.quiet_phase : (s.quiet).phase = s.phase := rfl
@[simp] theorem State.quiet_held : (s.quiet).held = s.held := rfl
@[simp] theorem State.quiet_inputs : (s.quiet).inputs = s.inputs := rfl
@[simp] theorem State.quiet_answers : (s.quiet).answers = [] := rfl

@[simp] theorem State.clearBuild_cfg : (s.clearBuild).cfg = s.cfg := rfl
@[simp] theorem State.clearBuild_cfgInput : (s.clearBuild).cfgInput = s.cfgInput := rfl
@[simp] theorem State.clearBuild_resetIn : (s.clearBuild).resetIn = s.resetIn := rfl
@[simp] theorem State.clearBuild_cfgVersion : (s.clearBuild).cfgVersion = s.cfgVersion := rfl
@[simp] theorem State.clearBuild_state : (s.clearBuild).state = s.state := rfl
@[simp] theorem State.clearBuild_fault : (s.clearBuild).fault = s.fault := rfl
@[simp] theorem State.clearBuild_count : (s.clearBuild).count = s.count := rfl
@[simp] theorem State.clearBuild_table : (s.clearBuild).table = s.table := rfl
@[simp] theorem State.clearBuild_price : (s.clearBuild).price = s.price := rfl
@[simp] theorem State.clearBuild_nopWord : (s.clearBuild).nopWord = s.nopWord := rfl
@[simp] theorem State.clearBuild_panicWord : (s.clearBuild).panicWord = s.panicWord := rfl
@[simp] theorem State.clearBuild_acc : (s.clearBuild).acc = [] := rfl
@[simp] theorem State.clearBuild_verIdx : (s.clearBuild).verIdx = 0 := rfl
@[simp] theorem State.clearBuild_found : (s.clearBuild).found = none := rfl
@[simp] theorem State.clearBuild_phase : (s.clearBuild).phase = .validate := rfl
@[simp] theorem State.clearBuild_held : (s.clearBuild).held = s.held := rfl
@[simp] theorem State.clearBuild_inputs : (s.clearBuild).inputs = s.inputs := rfl
@[simp] theorem State.clearBuild_answers : (s.clearBuild).answers = s.answers := rfl

@[simp] theorem State.raiseBuildFault_cfg (f : BuildFault) : (s.raiseBuildFault f).cfg = s.cfg := rfl
@[simp] theorem State.raiseBuildFault_cfgInput (f : BuildFault) : (s.raiseBuildFault f).cfgInput = s.cfgInput := rfl
@[simp] theorem State.raiseBuildFault_resetIn (f : BuildFault) : (s.raiseBuildFault f).resetIn = s.resetIn := rfl
@[simp] theorem State.raiseBuildFault_cfgVersion (f : BuildFault) : (s.raiseBuildFault f).cfgVersion = s.cfgVersion := rfl
@[simp] theorem State.raiseBuildFault_state (f : BuildFault) : (s.raiseBuildFault f).state = .failed := rfl
@[simp] theorem State.raiseBuildFault_fault (f : BuildFault) : (s.raiseBuildFault f).fault = some f := rfl
@[simp] theorem State.raiseBuildFault_count (f : BuildFault) : (s.raiseBuildFault f).count = 0 := rfl
@[simp] theorem State.raiseBuildFault_table (f : BuildFault) : (s.raiseBuildFault f).table = s.table := rfl
@[simp] theorem State.raiseBuildFault_price (f : BuildFault) : (s.raiseBuildFault f).price = s.price := rfl
@[simp] theorem State.raiseBuildFault_nopWord (f : BuildFault) : (s.raiseBuildFault f).nopWord = s.nopWord := rfl
@[simp] theorem State.raiseBuildFault_panicWord (f : BuildFault) : (s.raiseBuildFault f).panicWord = s.panicWord := rfl
@[simp] theorem State.raiseBuildFault_acc (f : BuildFault) : (s.raiseBuildFault f).acc = [] := rfl
@[simp] theorem State.raiseBuildFault_verIdx (f : BuildFault) : (s.raiseBuildFault f).verIdx = 0 := rfl
@[simp] theorem State.raiseBuildFault_found (f : BuildFault) : (s.raiseBuildFault f).found = none := rfl
@[simp] theorem State.raiseBuildFault_phase (f : BuildFault) : (s.raiseBuildFault f).phase = .validate := rfl
@[simp] theorem State.raiseBuildFault_held (f : BuildFault) : (s.raiseBuildFault f).held = s.held := rfl
@[simp] theorem State.raiseBuildFault_inputs (f : BuildFault) : (s.raiseBuildFault f).inputs = s.inputs := rfl
@[simp] theorem State.raiseBuildFault_answers (f : BuildFault) : (s.raiseBuildFault f).answers = s.answers := rfl

@[simp] theorem State.commit_cfg (t : Tables) : (s.commit t).cfg = s.cfg := rfl
@[simp] theorem State.commit_cfgInput (t : Tables) : (s.commit t).cfgInput = s.cfgInput := rfl
@[simp] theorem State.commit_resetIn (t : Tables) : (s.commit t).resetIn = s.resetIn := rfl
@[simp] theorem State.commit_cfgVersion (t : Tables) : (s.commit t).cfgVersion = s.cfgVersion := rfl
@[simp] theorem State.commit_state (t : Tables) : (s.commit t).state = .ready := rfl
@[simp] theorem State.commit_fault (t : Tables) : (s.commit t).fault = none := rfl
@[simp] theorem State.commit_count (t : Tables) : (s.commit t).count = t.count := rfl
@[simp] theorem State.commit_table (t : Tables) : (s.commit t).table = t.table := rfl
@[simp] theorem State.commit_price (t : Tables) : (s.commit t).price = t.price := rfl
@[simp] theorem State.commit_nopWord (t : Tables) : (s.commit t).nopWord = t.nopWord := rfl
@[simp] theorem State.commit_panicWord (t : Tables) : (s.commit t).panicWord = t.panicWord := rfl
@[simp] theorem State.commit_acc (t : Tables) : (s.commit t).acc = [] := rfl
@[simp] theorem State.commit_verIdx (t : Tables) : (s.commit t).verIdx = 0 := rfl
@[simp] theorem State.commit_found (t : Tables) : (s.commit t).found = none := rfl
@[simp] theorem State.commit_phase (t : Tables) : (s.commit t).phase = .validate := rfl
@[simp] theorem State.commit_held (t : Tables) : (s.commit t).held = s.held := rfl
@[simp] theorem State.commit_inputs (t : Tables) : (s.commit t).inputs = s.inputs := rfl
@[simp] theorem State.commit_answers (t : Tables) : (s.commit t).answers = s.answers := rfl

@[simp] theorem State.assertReset_cfg : (s.assertReset).cfg = s.cfg := rfl
@[simp] theorem State.assertReset_cfgInput : (s.assertReset).cfgInput = s.cfgInput := rfl
@[simp] theorem State.assertReset_resetIn : (s.assertReset).resetIn = true := rfl
@[simp] theorem State.assertReset_cfgVersion : (s.assertReset).cfgVersion = s.cfgVersion := rfl
@[simp] theorem State.assertReset_state : (s.assertReset).state = s.state := rfl
@[simp] theorem State.assertReset_fault : (s.assertReset).fault = s.fault := rfl
@[simp] theorem State.assertReset_count : (s.assertReset).count = s.count := rfl
@[simp] theorem State.assertReset_table : (s.assertReset).table = s.table := rfl
@[simp] theorem State.assertReset_price : (s.assertReset).price = s.price := rfl
@[simp] theorem State.assertReset_nopWord : (s.assertReset).nopWord = s.nopWord := rfl
@[simp] theorem State.assertReset_panicWord : (s.assertReset).panicWord = s.panicWord := rfl
@[simp] theorem State.assertReset_acc : (s.assertReset).acc = [] := rfl
@[simp] theorem State.assertReset_verIdx : (s.assertReset).verIdx = 0 := rfl
@[simp] theorem State.assertReset_found : (s.assertReset).found = none := rfl
@[simp] theorem State.assertReset_phase : (s.assertReset).phase = .validate := rfl
@[simp] theorem State.assertReset_held : (s.assertReset).held = [] := rfl
@[simp] theorem State.assertReset_inputs : (s.assertReset).inputs = s.inputs := rfl
@[simp] theorem State.assertReset_answers : (s.assertReset).answers = [] := rfl

@[simp] theorem State.releaseReset_cfg : (s.releaseReset).cfg = s.cfg := rfl
@[simp] theorem State.releaseReset_cfgInput : (s.releaseReset).cfgInput = s.cfgInput := rfl
@[simp] theorem State.releaseReset_resetIn : (s.releaseReset).resetIn = false := rfl
@[simp] theorem State.releaseReset_cfgVersion : (s.releaseReset).cfgVersion = s.cfgInput := rfl
@[simp] theorem State.releaseReset_state : (s.releaseReset).state = .building := rfl
@[simp] theorem State.releaseReset_fault : (s.releaseReset).fault = none := rfl
@[simp] theorem State.releaseReset_count : (s.releaseReset).count = 0 := rfl
@[simp] theorem State.releaseReset_table : (s.releaseReset).table = s.table := rfl
@[simp] theorem State.releaseReset_price : (s.releaseReset).price = s.price := rfl
@[simp] theorem State.releaseReset_nopWord : (s.releaseReset).nopWord = s.nopWord := rfl
@[simp] theorem State.releaseReset_panicWord : (s.releaseReset).panicWord = s.panicWord := rfl
@[simp] theorem State.releaseReset_acc : (s.releaseReset).acc = [] := rfl
@[simp] theorem State.releaseReset_verIdx : (s.releaseReset).verIdx = 0 := rfl
@[simp] theorem State.releaseReset_found : (s.releaseReset).found = none := rfl
@[simp] theorem State.releaseReset_phase : (s.releaseReset).phase = .validate := rfl
@[simp] theorem State.releaseReset_held : (s.releaseReset).held = [] := rfl
@[simp] theorem State.releaseReset_inputs : (s.releaseReset).inputs = s.inputs := rfl
@[simp] theorem State.releaseReset_answers : (s.releaseReset).answers = [] := rfl

@[simp] theorem State.buildNext_cfg (p : BuildPhase) (a : List Variant) (j : Nat) : (s.buildNext p a j).cfg = s.cfg := rfl
@[simp] theorem State.buildNext_cfgInput (p : BuildPhase) (a : List Variant) (j : Nat) : (s.buildNext p a j).cfgInput = s.cfgInput := rfl
@[simp] theorem State.buildNext_resetIn (p : BuildPhase) (a : List Variant) (j : Nat) : (s.buildNext p a j).resetIn = s.resetIn := rfl
@[simp] theorem State.buildNext_cfgVersion (p : BuildPhase) (a : List Variant) (j : Nat) : (s.buildNext p a j).cfgVersion = s.cfgVersion := rfl
@[simp] theorem State.buildNext_state (p : BuildPhase) (a : List Variant) (j : Nat) : (s.buildNext p a j).state = s.state := rfl
@[simp] theorem State.buildNext_fault (p : BuildPhase) (a : List Variant) (j : Nat) : (s.buildNext p a j).fault = s.fault := rfl
@[simp] theorem State.buildNext_count (p : BuildPhase) (a : List Variant) (j : Nat) : (s.buildNext p a j).count = s.count := rfl
@[simp] theorem State.buildNext_table (p : BuildPhase) (a : List Variant) (j : Nat) : (s.buildNext p a j).table = s.table := rfl
@[simp] theorem State.buildNext_price (p : BuildPhase) (a : List Variant) (j : Nat) : (s.buildNext p a j).price = s.price := rfl
@[simp] theorem State.buildNext_nopWord (p : BuildPhase) (a : List Variant) (j : Nat) : (s.buildNext p a j).nopWord = s.nopWord := rfl
@[simp] theorem State.buildNext_panicWord (p : BuildPhase) (a : List Variant) (j : Nat) : (s.buildNext p a j).panicWord = s.panicWord := rfl
@[simp] theorem State.buildNext_acc (p : BuildPhase) (a : List Variant) (j : Nat) : (s.buildNext p a j).acc = a := rfl
@[simp] theorem State.buildNext_verIdx (p : BuildPhase) (a : List Variant) (j : Nat) : (s.buildNext p a j).verIdx = j := rfl
@[simp] theorem State.buildNext_found (p : BuildPhase) (a : List Variant) (j : Nat) : (s.buildNext p a j).found = s.found := rfl
@[simp] theorem State.buildNext_phase (p : BuildPhase) (a : List Variant) (j : Nat) : (s.buildNext p a j).phase = p := rfl
@[simp] theorem State.buildNext_held (p : BuildPhase) (a : List Variant) (j : Nat) : (s.buildNext p a j).held = s.held := rfl
@[simp] theorem State.buildNext_inputs (p : BuildPhase) (a : List Variant) (j : Nat) : (s.buildNext p a j).inputs = s.inputs := rfl
@[simp] theorem State.buildNext_answers (p : BuildPhase) (a : List Variant) (j : Nat) : (s.buildNext p a j).answers = s.answers := rfl

@[simp] theorem State.buildFound_cfg (f : BuildFault) : (s.buildFound f).cfg = s.cfg := rfl
@[simp] theorem State.buildFound_cfgInput (f : BuildFault) : (s.buildFound f).cfgInput = s.cfgInput := rfl
@[simp] theorem State.buildFound_resetIn (f : BuildFault) : (s.buildFound f).resetIn = s.resetIn := rfl
@[simp] theorem State.buildFound_cfgVersion (f : BuildFault) : (s.buildFound f).cfgVersion = s.cfgVersion := rfl
@[simp] theorem State.buildFound_state (f : BuildFault) : (s.buildFound f).state = s.state := rfl
@[simp] theorem State.buildFound_fault (f : BuildFault) : (s.buildFound f).fault = s.fault := rfl
@[simp] theorem State.buildFound_count (f : BuildFault) : (s.buildFound f).count = s.count := rfl
@[simp] theorem State.buildFound_table (f : BuildFault) : (s.buildFound f).table = s.table := rfl
@[simp] theorem State.buildFound_price (f : BuildFault) : (s.buildFound f).price = s.price := rfl
@[simp] theorem State.buildFound_nopWord (f : BuildFault) : (s.buildFound f).nopWord = s.nopWord := rfl
@[simp] theorem State.buildFound_panicWord (f : BuildFault) : (s.buildFound f).panicWord = s.panicWord := rfl
@[simp] theorem State.buildFound_acc (f : BuildFault) : (s.buildFound f).acc = s.acc := rfl
@[simp] theorem State.buildFound_verIdx (f : BuildFault) : (s.buildFound f).verIdx = s.verIdx := rfl
@[simp] theorem State.buildFound_found (f : BuildFault) : (s.buildFound f).found = some f := rfl
@[simp] theorem State.buildFound_phase (f : BuildFault) : (s.buildFound f).phase = s.phase := rfl
@[simp] theorem State.buildFound_held (f : BuildFault) : (s.buildFound f).held = s.held := rfl
@[simp] theorem State.buildFound_inputs (f : BuildFault) : (s.buildFound f).inputs = s.inputs := rfl
@[simp] theorem State.buildFound_answers (f : BuildFault) : (s.buildFound f).answers = s.answers := rfl

@[simp] theorem State.releaseHeld_cfg : (s.releaseHeld).cfg = s.cfg := rfl
@[simp] theorem State.releaseHeld_cfgInput : (s.releaseHeld).cfgInput = s.cfgInput := rfl
@[simp] theorem State.releaseHeld_resetIn : (s.releaseHeld).resetIn = s.resetIn := rfl
@[simp] theorem State.releaseHeld_cfgVersion : (s.releaseHeld).cfgVersion = s.cfgVersion := rfl
@[simp] theorem State.releaseHeld_state : (s.releaseHeld).state = s.state := rfl
@[simp] theorem State.releaseHeld_fault : (s.releaseHeld).fault = s.fault := rfl
@[simp] theorem State.releaseHeld_count : (s.releaseHeld).count = s.count := rfl
@[simp] theorem State.releaseHeld_table : (s.releaseHeld).table = s.table := rfl
@[simp] theorem State.releaseHeld_price : (s.releaseHeld).price = s.price := rfl
@[simp] theorem State.releaseHeld_nopWord : (s.releaseHeld).nopWord = s.nopWord := rfl
@[simp] theorem State.releaseHeld_panicWord : (s.releaseHeld).panicWord = s.panicWord := rfl
@[simp] theorem State.releaseHeld_acc : (s.releaseHeld).acc = s.acc := rfl
@[simp] theorem State.releaseHeld_verIdx : (s.releaseHeld).verIdx = s.verIdx := rfl
@[simp] theorem State.releaseHeld_found : (s.releaseHeld).found = s.found := rfl
@[simp] theorem State.releaseHeld_phase : (s.releaseHeld).phase = s.phase := rfl
@[simp] theorem State.releaseHeld_held : (s.releaseHeld).held = [] := rfl
@[simp] theorem State.releaseHeld_inputs : (s.releaseHeld).inputs = s.inputs := rfl
@[simp] theorem State.releaseHeld_answers : (s.releaseHeld).answers = answerHeld s s.held := rfl

end Sys2Proof.Machine
end

