-- ==== Sys2Proof/Laws/Ops.lean ====
section
/-! SUPPORT. One lemma per shared operation that says once everything it can do: the response order `serve`, the build
sequencer, the block's own step, an event, and a step. -/

namespace Sys2Proof.Machine

open Sys2Proof

theorem serve_building {i : Instr} {z : Result} {o : RespCode × Result} {s : State} (h : s.state = .building) :
    serve i z o s = .next (s.hold i) := by
  simp [serve, h]

theorem serve_failed {i : Instr} {z : Result} {o : RespCode × Result} {s : State} (h : s.state = .failed) :
    serve i z o s = .next (s.answer i .failed z) := by
  simp [serve, h]

theorem serve_ready {i : Instr} {z : Result} {o : RespCode × Result} {s : State} (h : s.state = .ready) :
    serve i z o s = .next (s.answer i o.1 o.2) := by
  simp [serve, h]

/-- Everything `serve` can do: hold while BUILDING, the zero record when FAILED, the command's own response in READY. -/
theorem serve_cases {i : Instr} {z : Result} {o : RespCode × Result} {s t : State} (h : serve i z o s = .next t) :
    (s.state = .building ∧ t = s.hold i) ∨ (s.state = .failed ∧ t = s.answer i .failed z)
      ∨ (s.state = .ready ∧ t = s.answer i o.1 o.2) := by
  cases hs : s.state with
  | building => rw [serve_building hs] at h; cases h; exact .inl ⟨rfl, rfl⟩
  | ready => rw [serve_ready hs] at h; cases h; exact .inr (.inr ⟨rfl, rfl⟩)
  | failed => rw [serve_failed hs] at h; cases h; exact .inr (.inl ⟨rfl, rfl⟩)

theorem buildStep_found {s : State} {f : BuildFault} (h : s.found = some f) : s.buildStep = s.raiseBuildFault f := by
  simp [State.buildStep, h]

theorem buildStep_validate {s : State} (h : s.found = none) (hp : s.phase = .validate) :
    s.buildStep = s.buildValidate := by
  simp [State.buildStep, h, hp]

theorem buildStep_first {s : State} (h : s.found = none) (hp : s.phase = .first) : s.buildStep = s.buildFirst := by
  simp [State.buildStep, h, hp]

theorem buildStep_fold {s : State} (h : s.found = none) (hp : s.phase = .fold) : s.buildStep = s.buildFold := by
  simp [State.buildStep, h, hp]

theorem buildStep_finish {s : State} (h : s.found = none) (hp : s.phase = .finish) :
    s.buildStep = s.buildFinish := by
  simp [State.buildStep, h, hp]

/-- Everything VALIDATE's step can do (R122). -/
theorem buildValidate_cases (s : State) :
    (∃ f, validate s.cfg s.cfgVersion = some f ∧ s.buildValidate = s.buildFound f)
      ∨ (validate s.cfg s.cfgVersion = none ∧ s.buildValidate = s.buildNext .first [] 0) := by
  unfold State.buildValidate
  cases h : validate s.cfg s.cfgVersion <;> simp

/-- Everything the step of the earliest version can do (R126). -/
theorem buildFirst_cases (s : State) :
    (∃ f, foldFirst s.cfg.caps (earliest s.cfg) = .error f ∧ s.buildFirst = s.buildFound f)
      ∨ (∃ a, foldFirst s.cfg.caps (earliest s.cfg) = .ok a ∧ s.buildFirst = s.buildNext .fold a 1) := by
  unfold State.buildFirst
  cases h : foldFirst s.cfg.caps (earliest s.cfg) <;> simp

/-- Everything one turn of the loop can do (R127 to R130): end the fold, find a fault, or merge one version. -/
theorem buildFold_cases (s : State) :
    ((s.cfg.versions[s.verIdx]? = none ∨ ∃ v, s.cfg.versions[s.verIdx]? = some v ∧ ¬ v ≤ s.cfgVersion)
        ∧ s.buildFold = s.buildNext .finish s.acc s.verIdx)
      ∨ (∃ v, s.cfg.versions[s.verIdx]? = some v ∧ v ≤ s.cfgVersion ∧
          ((∃ f, foldVersion s.cfg.caps s.acc v = .error f ∧ s.buildFold = s.buildFound f)
            ∨ ∃ a, foldVersion s.cfg.caps s.acc v = .ok a ∧ s.buildFold = s.buildNext .fold a (s.verIdx + 1))) := by
  unfold State.buildFold
  cases hv : s.cfg.versions[s.verIdx]? with
  | none => simp
  | some v =>
    by_cases hle : v ≤ s.cfgVersion
    · refine .inr ⟨v, rfl, hle, ?_⟩
      cases h : foldVersion s.cfg.caps s.acc v <;> simp [hle, h]
    · exact .inl ⟨.inr ⟨v, rfl, hle⟩, by simp [hle]⟩

/-- Everything the last step of the build can do (R131 to R136). -/
theorem buildFinish_cases (s : State) :
    (∃ f, finishBuild s.cfg s.cfgVersion s.acc = .error f ∧ s.buildFinish = s.buildFound f)
      ∨ (∃ t, finishBuild s.cfg s.cfgVersion s.acc = .ok t ∧ s.buildFinish = s.commit t) := by
  unfold State.buildFinish
  cases h : finishBuild s.cfg s.cfgVersion s.acc <;> simp

/-- Everything one step of the build can do: raise the fault it has found, find one, go on, or commit the tables. -/
theorem buildStep_cases (s : State) :
    (∃ f, s.found = some f ∧ s.buildStep = s.raiseBuildFault f)
      ∨ (s.found = none ∧ ∃ f, s.buildStep = s.buildFound f)
      ∨ (s.found = none ∧ ∃ p a j, s.buildStep = s.buildNext p a j)
      ∨ (s.found = none ∧ s.phase = .finish
          ∧ ∃ t, finishBuild s.cfg s.cfgVersion s.acc = .ok t ∧ s.buildStep = s.commit t) := by
  cases hf : s.found with
  | some f => exact .inl ⟨f, rfl, buildStep_found hf⟩
  | none =>
    refine .inr ?_
    cases hp : s.phase with
    | validate =>
      rw [buildStep_validate hf hp]
      obtain ⟨f, -, h⟩ | ⟨-, h⟩ := buildValidate_cases s
      · exact .inl ⟨rfl, f, h⟩
      · exact .inr (.inl ⟨rfl, _, _, _, h⟩)
    | first =>
      rw [buildStep_first hf hp]
      obtain ⟨f, -, h⟩ | ⟨a, -, h⟩ := buildFirst_cases s
      · exact .inl ⟨rfl, f, h⟩
      · exact .inr (.inl ⟨rfl, _, _, _, h⟩)
    | fold =>
      rw [buildStep_fold hf hp]
      obtain ⟨-, h⟩ | ⟨v, -, -, ⟨f, -, h⟩ | ⟨a, -, h⟩⟩ := buildFold_cases s
      · exact .inr (.inl ⟨rfl, _, _, _, h⟩)
      · exact .inl ⟨rfl, f, h⟩
      · exact .inr (.inl ⟨rfl, _, _, _, h⟩)
    | finish =>
      rw [buildStep_finish hf hp]
      obtain ⟨f, -, h⟩ | ⟨t, ht, h⟩ := buildFinish_cases s
      · exact .inl ⟨rfl, f, h⟩
      · exact .inr (.inr ⟨rfl, rfl, t, ht, h⟩)

/-- Everything the block's own step can do: nothing under reset or once the build has ended, one step of the build while
it goes on, and the release of the held commands when it ends. -/
theorem tick_cases (s : State) :
    ((s.resetIn = true ∨ s.state ≠ .building) ∧ s.tick = s.quiet)
      ∨ (s.resetIn = false ∧ s.state = .building ∧ s.buildStep.state = .building ∧ s.tick = s.buildStep.quiet)
      ∨ (s.resetIn = false ∧ s.state = .building ∧ s.buildStep.state ≠ .building ∧ s.tick = s.buildStep.releaseHeld) := by
  unfold State.tick
  by_cases hr : s.resetIn = true
  · simp [hr]
  · by_cases hb : s.state = .building
    · by_cases hb' : s.buildStep.state = .building
      · simp [hr, hb, hb']
      · simp [hr, hb, hb']
    · simp [hr, hb]

/-- Everything an event of the outside world can do. -/
theorem stepInput_cases {e : Input} {s t : State} (h : stepInput e s = .next t) :
    (e = .tick ∧ t = s.tick) ∨ (e = .assertReset ∧ t = s.assertReset)
      ∨ (e = .releaseReset ∧ s.resetIn = true ∧ t = s.releaseReset)
      ∨ (e = .releaseReset ∧ s.resetIn = false ∧ t = s.quiet)
      ∨ (∃ v, e = .driveCfgVersion v ∧ t = { s with cfgInput := v, answers := [] })
      ∨ (∃ p, e = .request p ∧ s.resetIn = true ∧ t = s.quiet)
      ∨ (∃ p, e = .request p ∧ s.resetIn = false ∧ exec (s.fetch p) s = .next t) := by
  cases e with
  | tick => cases h; simp
  | assertReset => cases h; simp
  | releaseReset => cases hr : s.resetIn <;> simp [stepInput, hr] at h <;> simp [h]
  | driveCfgVersion v => cases h; simp
  | request p => cases hr : s.resetIn <;> simp [stepInput, hr] at h <;> simp [h]

/-- Everything a step can do: the configuration meets the premises of R25, and either the block works on or the next
event happens. -/
theorem step_cases {s t : State} (h : step s = .next t) :
    s.cfg.wf = true ∧ ((s.inputs = [] ∧ t = s.tick)
      ∨ ∃ e rest, s.inputs = e :: rest ∧ stepInput e { s with inputs := rest } = .next t) := by
  unfold step at h
  split at h
  · rename_i hw
    refine ⟨hw, ?_⟩
    cases hi : s.inputs with
    | nil => rw [hi] at h; cases h; exact .inl ⟨rfl, rfl⟩
    | cons e rest => rw [hi] at h; exact .inr ⟨e, rest, rfl, h⟩
  · cases h

/-- With nothing arriving, in a configuration within the premises, the block works on. -/
theorem step_idle {s : State} (hw : s.cfg.wf = true) (hi : s.inputs = []) : step s = .next s.tick := by
  simp [step, hw, hi]

/-- With an event to come, in a configuration within the premises, the event happens. -/
theorem step_event {s : State} {e : Input} {rest : List Input} (hw : s.cfg.wf = true) (hi : s.inputs = e :: rest) :
    step s = stepInput e { s with inputs := rest } := by
  simp [step, hw, hi]

/-- A request out of reset, in a configuration within the premises, is served by the meaning of the instruction the port
carries. -/
theorem step_request {s : State} {p : PortWord} {rest : List Input} (hw : s.cfg.wf = true) (hr : s.resetIn = false)
    (hi : s.inputs = .request p :: rest) :
    step s = exec (s.fetch p) { s with inputs := rest } := by
  simp [step, hw, hi, stepInput, hr]; rfl

end Sys2Proof.Machine
end

