-- ==== Sys2Proof/Laws/PerInstr.lean ====
section
/-! SUPPORT. The family EncodingFits: the bits the encoder writes for a well-formed instruction have the fixed bits (the
mask and match) of the instruction's row of spec/opcode_table.json. -/

namespace Sys2Proof.Laws

open Sys2Proof

/-- The fixed bits of a row: of the command code (mask, match), of the gap bits [12:11] of a codeword (mask, match), or
the whole codeword of a derived constant. -/
inductive RowPattern where
  | cmd (mask value : BitVec 4)
  | gap (mask value : BitVec 2)
  | word (w : Word)
deriving DecidableEq, Repr

/-- The bits at the port have the row's fixed bits. -/
def RowPattern.Holds : RowPattern → PortWord → Prop
  | .cmd mask value, .req b => b.extractLsb' 0 4 &&& mask = value
  | .gap mask value, .cw w => w.extractLsb' 11 2 &&& mask = value
  | .word x, .cw w => w = x
  | .cmd _ _, .cw _ => False
  | .gap _ _, .req _ => False
  | .word _, .req _ => False

/-- The fixed bits of an instruction's row. -/
def rowPattern (ctx : CwContext) : Instr → RowPattern
  | .status => .cmd 0xF 0x0
  | .decode _ => .cmd 0xF 0x1
  | .canon _ => .cmd 0xF 0x2
  | .encode _ _ _ _ _ _ _ _ => .cmd 0xF 0x3
  | .lookup _ => .cmd 0xF 0x4
  | .readEntry _ => .cmd 0xF 0x5
  | .readPrice _ => .cmd 0xF 0x6
  | .subvar _ _ _ => .cmd 0xF 0x7
  | .readConst _ => .cmd 0xF 0x8
  | .reservedCmd9 _ => .cmd 0xF 0x9
  | .reservedCmdAB _ _ => .cmd 0xE 0xA
  | .reservedCmdCF _ _ => .cmd 0xC 0xC
  | .invalid _ => .gap 0b11 0b00
  | .nop _ => .gap 0b11 0b00
  | .add _ => .gap 0b11 0b00
  | .sub _ => .gap 0b11 0b00
  | .mul _ => .gap 0b11 0b00
  | .div _ => .gap 0b11 0b00
  | .jump _ => .gap 0b11 0b00
  | .context _ => .gap 0b11 0b00
  | .shift _ => .gap 0b11 0b00
  | .binop _ => .gap 0b11 0b00
  | .ptr _ => .gap 0b11 0b00
  | .nearCall _ => .gap 0b11 0b00
  | .log _ => .gap 0b11 0b00
  | .farCall _ => .gap 0b11 0b00
  | .ret _ => .gap 0b11 0b00
  | .uma _ => .gap 0b11 0b00
  | .nopConst => .word ctx.nopWord
  | .panicConst => .word ctx.panicWord
  | .noncanonicalGap11 _ _ => .gap 0b01 0b01
  | .noncanonicalGap12 _ => .gap 0b10 0b10

/-- The command code of a request is its low four bits. -/
theorem reqBits_code (cmd : BitVec 4) (operands : BitVec 83) : (reqBits cmd operands).extractLsb' 0 4 = cmd := by
  have h := BitVec.extractLsb'_append_eq_right (a := operands) (b := cmd)
  exact h

/-- The gap bits of a codeword stand at [12:11] (R70). -/
theorem codewordBits_gap (c : Codeword) (gap : BitVec 2) : (codewordBits c gap).extractLsb' 11 2 = gap := by
  apply BitVec.eq_of_getLsbD_eq
  intro i hi
  have h := BitVec.getLsbD_append (i := 11 + i) (y := c.index)
    (x := c.imm1 ++ c.imm0 ++ c.dst1Reg ++ c.dst0Reg ++ c.src1Reg ++ c.src0Reg ++ c.cond ++ gap)
  have h' := BitVec.getLsbD_append (i := 11 + i - 11) (y := gap)
    (x := c.imm1 ++ c.imm0 ++ c.dst1Reg ++ c.dst0Reg ++ c.src1Reg ++ c.src0Reg ++ c.cond)
  rw [h'] at h
  rw [BitVec.getLsbD_extractLsb']
  simp only [hi, decide_true, Bool.true_and]
  refine h.trans ?_
  have e : 11 + i - 11 = i := by omega
  simp [e, hi]

/-- The encoding of a well-formed instruction has its row's fixed bits. -/
def EncodingFits.Statement (i : Instr) : Prop :=
  ∀ ctx : CwContext, wellFormed ctx i = true → (rowPattern ctx i).Holds (encode ctx i)

theorem encodingFits_cmd {i : Instr} {cmd mask value : BitVec 4} {operands : BitVec 83}
    (he : ∀ ctx, encode ctx i = .req (reqBits cmd operands)) (hp : ∀ ctx, rowPattern ctx i = .cmd mask value)
    (hm : cmd &&& mask = value) : EncodingFits.Statement i := by
  intro ctx _
  rw [he, hp]
  simp only [RowPattern.Holds, reqBits_code]
  exact hm

theorem encodingFits_gap {i : Instr} {c : Codeword} {gap mask value : BitVec 2}
    (he : ∀ ctx, encode ctx i = .cw (codewordBits c gap)) (hp : ∀ ctx, rowPattern ctx i = .gap mask value)
    (hm : gap &&& mask = value) : EncodingFits.Statement i := by
  intro ctx _
  rw [he, hp]
  simp only [RowPattern.Holds, codewordBits_gap]
  exact hm

theorem EncodingFits.status :
    EncodingFits.Statement .status :=
  encodingFits_cmd (fun _ => rfl) (fun _ => rfl) (by decide)
theorem EncodingFits.decode (word : Word) :
    EncodingFits.Statement (.decode word) :=
  encodingFits_cmd (fun _ => rfl) (fun _ => rfl) (by decide)
theorem EncodingFits.canon (word : Word) :
    EncodingFits.Statement (.canon word) :=
  encodingFits_cmd (fun _ => rfl) (fun _ => rfl) (by decide)
theorem EncodingFits.encode (key : Entry) (cond : Cond) (src0Reg src1Reg dst0Reg dst1Reg : RegIdx) (imm0 imm1 : Imm) :
    EncodingFits.Statement (.encode key cond src0Reg src1Reg dst0Reg dst1Reg imm0 imm1) :=
  encodingFits_cmd (fun _ => rfl) (fun _ => rfl) (by decide)
theorem EncodingFits.lookup (key : Entry) :
    EncodingFits.Statement (.lookup key) :=
  encodingFits_cmd (fun _ => rfl) (fun _ => rfl) (by decide)
theorem EncodingFits.readEntry (index : Slot) :
    EncodingFits.Statement (.readEntry index) :=
  encodingFits_cmd (fun _ => rfl) (fun _ => rfl) (by decide)
theorem EncodingFits.readPrice (index : Slot) :
    EncodingFits.Statement (.readPrice index) :=
  encodingFits_cmd (fun _ => rfl) (fun _ => rfl) (by decide)
theorem EncodingFits.subvar (fam : BitVec 4) (sidx : SubIdx) (ver : Version) :
    EncodingFits.Statement (.subvar fam sidx ver) :=
  encodingFits_cmd (fun _ => rfl) (fun _ => rfl) (by decide)
theorem EncodingFits.readConst (sel : BitVec 1) :
    EncodingFits.Statement (.readConst sel) :=
  encodingFits_cmd (fun _ => rfl) (fun _ => rfl) (by decide)
theorem EncodingFits.reservedCmd9 (operands : BitVec 83) :
    EncodingFits.Statement (.reservedCmd9 operands) :=
  encodingFits_cmd (fun _ => rfl) (fun _ => rfl) (by decide)
theorem EncodingFits.reservedCmdAB (low : BitVec 1) (operands : BitVec 83) :
    EncodingFits.Statement (.reservedCmdAB low operands) :=
  encodingFits_cmd (fun _ => rfl) (fun _ => rfl) (by revert low; decide)
theorem EncodingFits.reservedCmdCF (low : BitVec 2) (operands : BitVec 83) :
    EncodingFits.Statement (.reservedCmdCF low operands) :=
  encodingFits_cmd (fun _ => rfl) (fun _ => rfl) (by revert low; decide)
theorem EncodingFits.invalid (c : Codeword) : EncodingFits.Statement (.invalid c) :=
  encodingFits_gap (fun _ => rfl) (fun _ => rfl) (by decide)
theorem EncodingFits.nop (c : Codeword) : EncodingFits.Statement (.nop c) :=
  encodingFits_gap (fun _ => rfl) (fun _ => rfl) (by decide)
theorem EncodingFits.add (c : Codeword) : EncodingFits.Statement (.add c) :=
  encodingFits_gap (fun _ => rfl) (fun _ => rfl) (by decide)
theorem EncodingFits.sub (c : Codeword) : EncodingFits.Statement (.sub c) :=
  encodingFits_gap (fun _ => rfl) (fun _ => rfl) (by decide)
theorem EncodingFits.mul (c : Codeword) : EncodingFits.Statement (.mul c) :=
  encodingFits_gap (fun _ => rfl) (fun _ => rfl) (by decide)
theorem EncodingFits.div (c : Codeword) : EncodingFits.Statement (.div c) :=
  encodingFits_gap (fun _ => rfl) (fun _ => rfl) (by decide)
theorem EncodingFits.jump (c : Codeword) : EncodingFits.Statement (.jump c) :=
  encodingFits_gap (fun _ => rfl) (fun _ => rfl) (by decide)
theorem EncodingFits.context (c : Codeword) : EncodingFits.Statement (.context c) :=
  encodingFits_gap (fun _ => rfl) (fun _ => rfl) (by decide)
theorem EncodingFits.shift (c : Codeword) : EncodingFits.Statement (.shift c) :=
  encodingFits_gap (fun _ => rfl) (fun _ => rfl) (by decide)
theorem EncodingFits.binop (c : Codeword) : EncodingFits.Statement (.binop c) :=
  encodingFits_gap (fun _ => rfl) (fun _ => rfl) (by decide)
theorem EncodingFits.ptr (c : Codeword) : EncodingFits.Statement (.ptr c) :=
  encodingFits_gap (fun _ => rfl) (fun _ => rfl) (by decide)
theorem EncodingFits.nearCall (c : Codeword) : EncodingFits.Statement (.nearCall c) :=
  encodingFits_gap (fun _ => rfl) (fun _ => rfl) (by decide)
theorem EncodingFits.log (c : Codeword) : EncodingFits.Statement (.log c) :=
  encodingFits_gap (fun _ => rfl) (fun _ => rfl) (by decide)
theorem EncodingFits.farCall (c : Codeword) : EncodingFits.Statement (.farCall c) :=
  encodingFits_gap (fun _ => rfl) (fun _ => rfl) (by decide)
theorem EncodingFits.ret (c : Codeword) : EncodingFits.Statement (.ret c) :=
  encodingFits_gap (fun _ => rfl) (fun _ => rfl) (by decide)
theorem EncodingFits.uma (c : Codeword) : EncodingFits.Statement (.uma c) :=
  encodingFits_gap (fun _ => rfl) (fun _ => rfl) (by decide)
theorem EncodingFits.nopConst : EncodingFits.Statement .nopConst := fun _ _ => rfl
theorem EncodingFits.panicConst : EncodingFits.Statement .panicConst := fun _ _ => rfl
theorem EncodingFits.noncanonicalGap11 (c : Codeword) (gap12 : BitVec 1) :
    EncodingFits.Statement (.noncanonicalGap11 c gap12) :=
  encodingFits_gap (fun _ => rfl) (fun _ => rfl) (by revert gap12; decide)
theorem EncodingFits.noncanonicalGap12 (c : Codeword) : EncodingFits.Statement (.noncanonicalGap12 c) :=
  encodingFits_gap (fun _ => rfl) (fun _ => rfl) (by decide)

end Sys2Proof.Laws
end

