-- ==== Sys2Proof/Laws/Tables.lean ====
section
/-! SUPPORT. The slot space (spec/20_memory.md R50, R51): padding, reading and searching keep 2048 slots. These are the
lemmas about the block's only storage. It has no byte-addressed memory and no command writes a slot (R50, R59). -/

namespace Sys2Proof

/-- The sixteen families are all there are (R21). -/
theorem Family.mem_all (f : Family) : f ∈ Family.all := by
  cases f <;> decide

/-- COMMIT writes exactly 2048 slots when the accumulator fits (R133). -/
theorem padTable_length {acc : List Variant} (h : acc.length ≤ tableLen) : (padTable acc).length = tableLen := by
  simp only [padTable, List.length_append, List.length_replicate]; omega

/-- PRICE is parallel to TABLE (R29, R134). -/
@[simp] theorem fillPrices_length (c : Caps) (t : List Variant) : (fillPrices c t).length = t.length := by
  simp [fillPrices]

/-- A slot below the accumulator's length reads the accumulator's entry, any other slot INVALID_V (R133). -/
theorem readTable_padTable (acc : List Variant) (i : Slot) :
    readTable (padTable acc) i = acc.getD i.toNat invalidV := by
  simp only [readTable, padTable, List.getD_eq_getElem?_getD, List.getElem?_append, List.getElem?_replicate]
  split
  · rfl
  · rename_i h
    rw [List.getElem?_eq_none (by omega)]
    split <;> rfl

/-- On a table of 2048 slots the CAM is the first index that holds the key (R170). -/
theorem cam_eq_findIdx {t : List Variant} (h : t.length = tableLen) (key : Variant) :
    cam t key = (t.findIdx? (fun v => v == key)).map (BitVec.ofNat 11) := by
  rw [cam, ← h, List.take_length]

/-- The encode core's three answers (R173). -/
theorem encCore_cases (t : List Variant) (x : DecodedInstr) :
    (cam t x.variant = none ∧ encCore t x = (.lookupMiss, 0))
      ∨ (∃ i, cam t x.variant = some i ∧ x.inRange = false ∧ encCore t x = (.range, 0))
      ∨ (∃ i, cam t x.variant = some i ∧ x.inRange = true ∧ encCore t x = (.ok, packWord i x)) := by
  cases hc : cam t x.variant with
  | none => exact .inl ⟨rfl, by simp [encCore, hc]⟩
  | some i => cases hr : x.inRange <;> simp [encCore, hc, hr]

/-- R121 after VALIDATE is the final checks on the accumulator at CFG_VERSION. -/
theorem enumerateAndFold_eq (cfg : Configuration) (v : Version) :
    enumerateAndFold cfg v
      = match accumulatorAt cfg v with
        | .error e => .error e
        | .ok acc => finishBuild cfg v acc := by
  unfold enumerateAndFold accumulatorAt
  cases foldFirst cfg.caps (earliest cfg) <;> rfl

/-- Everything a successful build says: VALIDATE passed, and the final checks passed on the accumulator. -/
theorem build_ok {cfg : Configuration} {v : Version} {t : Tables} (h : build cfg v = .ok t) :
    validate cfg v = none ∧ ∃ acc, accumulatorAt cfg v = .ok acc ∧ finishBuild cfg v acc = .ok t := by
  unfold build at h
  split at h
  · cases h
  · rename_i hv
    rw [enumerateAndFold_eq] at h
    cases ha : accumulatorAt cfg v with
    | error e => rw [ha] at h; cases h
    | ok acc => rw [ha] at h; exact ⟨hv, acc, rfl, h⟩

/-- Everything the final checks can answer (R131 to R135): a fault, or the padded accumulator with its prices. -/
theorem finishBuild_ok {cfg : Configuration} {v : Version} {acc : List Variant} {t : Tables}
    (h : finishBuild cfg v acc = .ok t) :
    acc.head? = some invalidV ∧ acc.length ≤ tableLen ∧ t.table = padTable acc
      ∧ t.count = BitVec.ofNat 12 acc.length ∧ t.price = fillPrices cfg.caps (padTable acc)
      ∧ deriveWord (padTable acc) (nopInstr cfg v) = .ok t.nopWord
      ∧ deriveWord (padTable acc) (panicInstr cfg v) = .ok t.panicWord := by
  unfold finishBuild at h
  split at h
  · cases h
  · rename_i h0
    split at h
    · cases h
    · rename_i hl
      simp only at h
      split at h
      · cases h
      · rename_i w1 hw1
        split at h
        · cases h
        · rename_i w2 hw2
          cases h
          exact ⟨Decidable.not_not.mp h0, by omega, rfl, rfl, rfl, hw1, hw2⟩

end Sys2Proof
end

