-- ==== Sys2Proof/Tests/Slice0.lean ====
section
/-! SUPPORT. The model's own tests. Expected values are those of spec/95_test_vectors.md (the vector's number stands at
the test) or are written out by hand from the rule named. The last part holds, for every statement with hypotheses, a
concrete state and operands that meet them. -/

set_option Elab.async false

namespace Sys2Proof.Tests

open Sys2Proof Sys2Proof.Machine

/-! ## Helpers -/

/-- The variants of a column of 95_test_vectors.md section 3. -/
def ofEntries (es : List Entry) : List Variant := es.map fun e => (Variant.ofEntry e).getD invalidV

/-- The v0 ENTRY column. -/
def entriesV0 : List Entry :=
  [0x00000000, 0x00000001, 0x00000002, 0x00400002, 0x00000003, 0x00400003, 0x00002006, 0x00006006, 0x0000A006,
   0x0000E006, 0x00012006, 0x00016006, 0x00040007, 0x000C0007, 0x00140007, 0x001C0007, 0x0000000C, 0x0040000C,
   0x0000000E, 0x0000001E, 0x0000002E]

/-- The v0 price column. -/
def pricesV0 : List Erg := [4294967295, 1, 2, 2, 3, 3, 4, 4, 4, 4, 4, 4, 5, 5, 5, 5, 6, 6, 8, 8, 8]

/-- The v1 ENTRY column. -/
def entriesV1 : List Entry :=
  [0x00000000, 0x00000001, 0x00000002, 0x00400002, 0x00001003, 0x00401003, 0x00002006, 0x00006006, 0x0000A006,
   0x0000E006, 0x00012006, 0x00016006, 0x00040007, 0x000C0007, 0x00140007, 0x001C0007, 0x0000000C, 0x0040000C,
   0x0000000E, 0x0000001E, 0x0000002E, 0x00005003, 0x00405003, 0x0000001C, 0x0040001C]

/-- The v1 price column. -/
def pricesV1 : List Erg :=
  [4294967295, 1, 2, 2, 3, 3, 4, 4, 4, 4, 4, 4, 5, 5, 5, 5, 6, 6, 8, 8, 8, 3, 3, 100, 100]

/-- The tables of a column, padded as section 3 says. -/
def tablesOf (es : List Entry) (ps : List Erg) (count : BitVec 12) : Tables :=
  { table := ofEntries es ++ List.replicate (2048 - es.length) invalidV, count := count,
    price := ps ++ List.replicate (2048 - ps.length) 0xFFFFFFFF, nopWord := 1, panicWord := 0x14 }

/-- The v0 and v1 tables of section 3. -/
def tablesV0 : Tables := tablesOf entriesV0 pricesV0 21
def tablesV1 : Tables := tablesOf entriesV1 pricesV1 25

/-- READY with given tables. -/
def readyWith (v : Version) (t : Tables) : State :=
  { State.reset with cfgVersion := v, state := .ready, table := t.table, count := t.count, price := t.price,
                     nopWord := t.nopWord, panicWord := t.panicWord }

/-- READY in TOY at version 1 and at version 0. -/
def ready1 : State := readyWith 1 tablesV1
def ready0 : State := readyWith 0 tablesV0

/-- FAILED in TOY with CFG_VERSION 2 (B2). -/
def failed2 : State := { State.reset with cfgVersion := 2, state := .failed, fault := some .unknownVersion }

/-- BUILDING, VALIDATE done, with a command held. -/
def midBuild : State := { State.reset with phase := .first, held := [.decode 0x10002] }

/-- BUILDING, the fold done, with two commands held. -/
def lateBuild : State :=
  { State.reset with phase := .finish, acc := ofEntries entriesV1, verIdx := 2, held := [.readPrice 23, .canon 0x800] }

/-- Reset asserted. -/
def inReset : State := { State.reset with resetIn := true }

/-- The responses of an instruction in a state, without the request they answer. -/
def resp (i : Instr) (s : State) : List (RespCode × Result) :=
  (outcomeAnswers (exec i s)).map fun a => (a.resp, a.result)

/-- The next state of an outcome. -/
def nextOf : Host.Outcome State Fault Refusal → Option State
  | .next t => some t
  | .fault _ => none
  | .refused _ => none

/-- The STATUS word of a block after its build. -/
def builtStatus (cfg : Configuration) (v : Version) : BitVec 32 :=
  ({ State.reset with cfg := cfg, cfgInput := v, cfgVersion := v } : State).served.statusWord

/-- TOY with another CAPS. -/
def toyWith (c : Caps) : Configuration := { toyConfig with caps := c }

/-- Classes at versions, for the build vectors that change them. -/
def fullAt1 : List ClassesAt := [{ ver := 1, src := .full, dst := .regOnly }]
def badDstAt1 : List ClassesAt := [{ ver := 1, src := .regOnly, dst := .regOrImm16 }]

/-- The changed configurations of section 5. -/
def cfgB1 : Configuration := toyWith { toyCaps with div := { toyCaps.div with name := toyCaps.mul.name } }
def cfgB3 : Configuration := toyWith { toyCaps with context := { toyCaps.context with dstBase := .regOrImm16 } }
def cfgB4 : Configuration := toyWith { toyCaps with context := { toyCaps.context with classes := badDstAt1 } }
def cfgB5 : Configuration := toyWith { toyCaps with sub := { toyCaps.sub with classes := fullAt1 } }
def cfgB7 : Configuration := toyWith { toyCaps with invalid := { toyCaps.invalid with famMin := 1 } }
def cfgB12 : Configuration := toyWith { toyCaps with nop := { toyCaps.nop with famMin := 1 } }
def cfgB14 : Configuration :=
  toyWith { toyCaps with ret := { toyCaps.ret with subs := toyCaps.ret.subs.take 2 ++ [toySub 2 1 8 0 false true] } }
def shiftFull (n : Nat) : Descriptor :=
  { toyFamily 8 0 (List.replicate n (toySub 0 0 0 0 false true)) 2 0 with srcBase := .full, dstBase := .full }
def cfgB8 : Configuration := toyWith { toyCaps with shift := shiftFull 22 }
def cfgB9 : Configuration :=
  toyWith { toyCaps with shift := shiftFull 21,
                         binop := toyFamily 9 0 (List.replicate 11 (toySub 0 0 0 0 false true)) 0 0 }

/-- A codeword context written out by hand: slot k holds family k; NOP_WORD is slot 1, PANIC_WORD slot 14. -/
def handCtx : CwContext :=
  { ready := true, table := Family.all.map fun f => { invalidV with fam := f }, nopWord := 1, panicWord := 14 }

/-- The fields of the words below: cond 5, registers 1, 2, 4, 8, immediates 0x1234 and 0xABCD. -/
def fieldsAt (i : Slot) : Codeword :=
  { index := i, cond := 5, src0Reg := 1, src1Reg := 2, dst0Reg := 4, dst1Reg := 8, imm0 := 0x1234, imm1 := 0xABCD }

/-! ## Decoding: words written out from R70 (imm1 imm0 dst1 dst0 src1 src0 cond gap index) and R81 -/

theorem test_decode_invalid : decode handCtx
    (.cw 0b1010101111001101_0001001000110100_1000_0100_0010_0001_101_00_00000000000) = .invalid (fieldsAt 0) := by decide
theorem test_decode_nop : decode handCtx
    (.cw 0b1010101111001101_0001001000110100_1000_0100_0010_0001_101_00_00000000001) = .nop (fieldsAt 1) := by decide
theorem test_decode_add : decode handCtx
    (.cw 0b1010101111001101_0001001000110100_1000_0100_0010_0001_101_00_00000000010) = .add (fieldsAt 2) := by decide
theorem test_decode_sub : decode handCtx
    (.cw 0b1010101111001101_0001001000110100_1000_0100_0010_0001_101_00_00000000011) = .sub (fieldsAt 3) := by decide
theorem test_decode_mul : decode handCtx
    (.cw 0b1010101111001101_0001001000110100_1000_0100_0010_0001_101_00_00000000100) = .mul (fieldsAt 4) := by decide
theorem test_decode_div : decode handCtx
    (.cw 0b1010101111001101_0001001000110100_1000_0100_0010_0001_101_00_00000000101) = .div (fieldsAt 5) := by decide
theorem test_decode_jump : decode handCtx
    (.cw 0b1010101111001101_0001001000110100_1000_0100_0010_0001_101_00_00000000110) = .jump (fieldsAt 6) := by decide
theorem test_decode_context : decode handCtx
    (.cw 0b1010101111001101_0001001000110100_1000_0100_0010_0001_101_00_00000000111) = .context (fieldsAt 7) := by decide
theorem test_decode_shift : decode handCtx
    (.cw 0b1010101111001101_0001001000110100_1000_0100_0010_0001_101_00_00000001000) = .shift (fieldsAt 8) := by decide
theorem test_decode_binop : decode handCtx
    (.cw 0b1010101111001101_0001001000110100_1000_0100_0010_0001_101_00_00000001001) = .binop (fieldsAt 9) := by decide
theorem test_decode_ptr : decode handCtx
    (.cw 0b1010101111001101_0001001000110100_1000_0100_0010_0001_101_00_00000001010) = .ptr (fieldsAt 10) := by decide
theorem test_decode_nearCall : decode handCtx
    (.cw 0b1010101111001101_0001001000110100_1000_0100_0010_0001_101_00_00000001011) = .nearCall (fieldsAt 11) := by decide
theorem test_decode_log : decode handCtx
    (.cw 0b1010101111001101_0001001000110100_1000_0100_0010_0001_101_00_00000001100) = .log (fieldsAt 12) := by decide
theorem test_decode_farCall : decode handCtx
    (.cw 0b1010101111001101_0001001000110100_1000_0100_0010_0001_101_00_00000001101) = .farCall (fieldsAt 13) := by decide
theorem test_decode_ret : decode handCtx
    (.cw 0b1010101111001101_0001001000110100_1000_0100_0010_0001_101_00_00000001110) = .ret (fieldsAt 14) := by decide
theorem test_decode_uma : decode handCtx
    (.cw 0b1010101111001101_0001001000110100_1000_0100_0010_0001_101_00_00000001111) = .uma (fieldsAt 15) := by decide
theorem test_decode_nopConst : decode handCtx
    (.cw 0b0000000000000000_0000000000000000_0000_0000_0000_0000_000_00_00000000001) = .nopConst := by decide
theorem test_decode_panicConst : decode handCtx
    (.cw 0b0000000000000000_0000000000000000_0000_0000_0000_0000_000_00_00000001110) = .panicConst := by decide
theorem test_decode_gap11 : decode handCtx
    (.cw 0b1010101111001101_0001001000110100_1000_0100_0010_0001_101_11_00000000010)
    = .noncanonicalGap11 (fieldsAt 2) 1 := by decide
theorem test_decode_gap12 : decode handCtx
    (.cw 0b1010101111001101_0001001000110100_1000_0100_0010_0001_101_10_00000000010)
    = .noncanonicalGap12 (fieldsAt 2) := by decide

/-- Before the build ends a canonical word is the operand of DECODE (log entry 5). -/
theorem test_decode_before_ready : decode { handCtx with ready := false } (.cw 0xE)= .decode 0xE := by decide

theorem test_decode_status : decode handCtx (.req 0b0000) = .status := by decide
theorem test_decode_decode : decode handCtx (.req 0xBEEF12346543A017_1) = .decode 0xBEEF12346543A017 := by decide
theorem test_decode_canon : decode handCtx (.req 0xFFFFFFFFFFFFE7FF_2) = .canon 0xFFFFFFFFFFFFE7FF := by decide
theorem test_decode_encode : decode handCtx
    (.req 0b1010101111001101_0001001000110100_1000_0100_0010_0001_101_00000000010000000001000000000011_0011)
    = .encode 0x00401003 5 1 2 4 8 0x1234 0xABCD := by decide
theorem test_decode_lookup : decode handCtx (.req 0x00401003_4) = .lookup 0x00401003 := by decide
theorem test_decode_readEntry : decode handCtx (.req 0b11111111110_0101) = .readEntry 2046 := by decide
theorem test_decode_readPrice : decode handCtx (.req 0b00000010111_0110) = .readPrice 23 := by decide
theorem test_decode_subvar : decode handCtx (.req 0b11111111_00000001_1100_0111) = .subvar 12 1 255 := by decide
theorem test_decode_readConst : decode handCtx (.req 0b1_1000) = .readConst 1 := by decide
theorem test_decode_reserved9 : decode handCtx (.req 0b1_1001) = .reservedCmd9 1 := by decide
theorem test_decode_reservedAB : decode handCtx (.req 0b1_1011) = .reservedCmdAB 1 1 := by decide
theorem test_decode_reservedCF : decode handCtx (.req 0b1_1110) = .reservedCmdCF 2 1 := by decide

/-! ## Well-formedness: each check refuses an ill-formed term -/

theorem test_wf_accepts : wellFormed handCtx (.add (fieldsAt 2)) = true := by decide
theorem test_wf_wrong_family : wellFormed handCtx (.sub (fieldsAt 2)) = false := by decide
theorem test_wf_not_built : wellFormed { handCtx with ready := false } (.add (fieldsAt 2)) = false := by decide
theorem test_wf_spells_nop : wellFormed { handCtx with nopWord := codeword (fieldsAt 2) } (.add (fieldsAt 2)) = false := by
  decide
theorem test_wf_spells_panic :
    wellFormed { handCtx with panicWord := codeword (fieldsAt 2) } (.add (fieldsAt 2)) = false := by decide
theorem test_wf_nopConst_not_built : wellFormed { handCtx with ready := false } .nopConst = false := by decide
theorem test_wf_nopConst_gap : wellFormed { handCtx with nopWord := 0x800 } .nopConst = false := by decide
theorem test_wf_panicConst_not_built : wellFormed { handCtx with ready := false } .panicConst = false := by decide
theorem test_wf_panicConst_gap : wellFormed { handCtx with panicWord := 0x1000 } .panicConst = false := by decide
theorem test_wf_panicConst_is_nop : wellFormed { handCtx with panicWord := 1 } .panicConst = false := by decide

theorem test_cfg_accepts : toyConfig.wf = true := by decide
theorem test_cfg_no_versions : ({ toyConfig with versions := [] } : Configuration).wf = false := by decide
theorem test_cfg_unordered : ({ toyConfig with versions := [1, 1] } : Configuration).wf = false := by decide
theorem test_cfg_no_subs : (toyWith { toyCaps with uma := { toyCaps.uma with subs := [] } }).wf = false := by decide
theorem test_cfg_many_subs : (toyWith { toyCaps with uma := shiftFull 257 }).wf = false := by
  decide +kernel
theorem test_cfg_panic_sub : ({ toyConfig with panicSub := 3 } : Configuration).wf = false := by decide

/-! ## The build (section 3 and section 5) -/

/-- The v0 and v1 tables, slot by slot. -/
theorem test_build_toy_v0 : build toyConfig 0 = .ok tablesV0 := by decide +kernel
theorem test_build_toy_v1 : build toyConfig 1 = .ok tablesV1 := by decide +kernel

theorem test_B1_dup_name : builtStatus cfgB1 1 = 0x00100012 := by decide +kernel
theorem test_B2_unknown_version : builtStatus toyConfig 2 = 0x00200022 := by decide +kernel
theorem test_B3_illegal_descriptor : builtStatus cfgB3 1 = 0x00100032 := by decide +kernel
theorem test_B4_later_version_unexamined : builtStatus cfgB4 0 = 0x00001501 := by decide +kernel
theorem test_B5_missing_predecessor : builtStatus cfgB5 1 = 0x00100042 := by decide +kernel
theorem test_B7_slot0 : builtStatus cfgB7 1 = 0x00100062 := by decide +kernel
theorem test_B8_overflow : builtStatus cfgB8 0 = 0x00000072 := by decide +kernel
theorem test_B9_exact_fill : (builtContext cfgB9 0).ready = true ∧ (builtContext cfgB9 0).panicWord = 0x7FF := by
  decide +kernel
theorem test_B12_derived_const_miss : builtStatus cfgB12 0 = 0x00000082 := by decide +kernel
theorem test_B13_appended_nop : (builtContext cfgB12 1).nopWord = 0x14 ∧ (builtContext cfgB12 1).panicWord = 0x13 := by
  decide +kernel
theorem test_B14_derived_const_miss : builtStatus cfgB14 0 = 0x00000082 := by decide +kernel

/-! ## The commands (section 4) -/

theorem test_T1_status_building : resp .status State.reset = [(.ok, .status 0x00100000)] := by decide
theorem test_T2_status_ready : resp .status ready1 = [(.ok, .status 0x00101901)] := by decide

theorem test_K3_canon : resp (.canon 0x1000) ready1 = [(.ok, .canon false)] := by decide
theorem test_K5_canon : resp (.canon 0xFFFFFFFFFFFFE7FF) ready1 = [(.ok, .canon true)] := by decide

theorem test_D3_decode : resp (.decode 0xBEEF12346543A017) ready1
    = [(.ok, .decode
        { index := 23, variant := 0x0000001C, src0Sel := 0, dst0Sel := 0, cond := 5, src0Reg := 3, src1Reg := 4,
          dst0Reg := 5, dst1Reg := 6, imm0 := 0x1234, imm1 := 0xBEEF, price := 100, kernel := false,
          staticOk := false, nImm := 0, nFlags := 1 })] := by decide +kernel
theorem test_D4_decode_padding : resp (.decode 0xFFFFFFFFFFFFE7FF) ready1
    = [(.ok, .decode
        { index := 2047, variant := 0, src0Sel := 0, dst0Sel := 0, cond := 7, src0Reg := 15, src1Reg := 15,
          dst0Reg := 15, dst1Reg := 15, imm0 := 0xFFFF, imm1 := 0xFFFF, price := 0xFFFFFFFF, kernel := false,
          staticOk := true, nImm := 0, nFlags := 0 })] := by decide +kernel

theorem test_RE3_readEntry : resp (.readEntry 13) ready1 = [(.ok, .entry 0x000C0007)] := by decide +kernel
theorem test_RE4_readEntry_v0 : resp (.readEntry 24) ready0 = [(.ok, .entry 0)] := by decide +kernel

theorem test_L1_lookup_invalid : resp (.lookup 0) ready1 = [(.ok, .index 0)] := by decide +kernel
theorem test_L7_lookup_superseded :
    resp (.lookup 0x00000003) ready1 = [(.lookupMiss, .index 0)]
      ∧ resp (.lookup 0x00000003) ready0 = [(.ok, .index 4)] := by decide +kernel

theorem test_E2_encode :
    resp (.encode 0x0000001C 5 3 4 5 6 0x1234 0xBEEF) ready1 = [(.ok, .word 0xBEEF12346543A017)] := by decide +kernel
theorem test_E12_encode_bad_mode :
    resp (.encode 0x0000C006 0 0 0 0 0 0 0) ready1 = [(.lookupMiss, .word 0)] := by decide +kernel

/-- `f.0[RegOnly:0 -> RegOnly:0; f=00]` with a condition and zero operands. -/
def instrOf (f : Family) (cond : Nat) : DecodedInstr :=
  { variant := { invalidV with fam := f }, cond := cond, src0Reg := 0, src1Reg := 0, dst0Reg := 0, dst1Reg := 0,
    imm0 := 0, imm1 := 0 }

/-- E13 and E16 on fields of unbounded width. -/
theorem test_E13_range : (encCore tablesV1.table (instrOf .add 8)).1 = .range := by decide +kernel
theorem test_E16_miss_before_range : (encCore tablesV1.table (instrOf .sub 8)).1 = .lookupMiss := by
  decide +kernel

theorem test_C1_readConst : resp (.readConst 0) ready1 = [(.ok, .word 1)] := by decide
theorem test_C2_readConst : resp (.readConst 1) ready1 = [(.ok, .word 0x14)] := by decide

theorem test_PR5_readPrice : resp (.readPrice 23) ready1 = [(.ok, .price 100)] := by decide +kernel
theorem test_PR6_readPrice : resp (.readPrice 2047) ready1 = [(.ok, .price 0xFFFFFFFF)] := by decide +kernel

theorem test_SV3_subvar : resp (.subvar 12 1 1) ready1
    = [(.ok, .subvar { sidx := 1, subMin := 1, kernel := false, staticOk := false, priceFormula := 7, floor := 100 })] := by
  decide
theorem test_SV4_subvar : resp (.subvar 12 2 1) ready1
    = [(.notFound, .subvar { sidx := 0, subMin := 0, kernel := false, staticOk := false, priceFormula := 0, floor := 0 })]
    := by decide

theorem test_X1_reserved9 : resp (.reservedCmd9 5) ready1 = [(.badCmd, .zero)] := by decide
theorem test_reservedAB_failed : resp (.reservedCmdAB 0 0) failed2 = [(.badCmd, .zero)] := by decide
theorem test_X2_reservedF_building : resp (.reservedCmdCF 3 0) State.reset = [(.badCmd, .zero)] := by decide

theorem test_X4_decode_held :
    (nextOf (exec (.decode 0x10002) State.reset)).map (fun t => (t.held, t.answers)) = some ([.decode 0x10002], []) := by
  decide
theorem test_X7_canon_failed : resp (.canon 0x800) failed2 = [(.failed, .canon false)] := by decide

/-! ## The codeword rows: index, ENTRY, select lines and price of the result -/

/-- The slot outputs of a decode response. -/
def slotOf (i : Instr) (s : State) : List (RespCode × List Nat) :=
  (outcomeAnswers (exec i s)).map fun a =>
    (a.resp, match a.result with
      | .decode r => [r.index.toNat, r.variant.toNat, r.src0Sel.toNat, r.dst0Sel.toNat, r.price.toNat]
      | _ => [])

/-- READY with slot k holding `v` of family k, for the families TOY leaves out. -/
def handReady (v : Variant) : State :=
  { State.reset with state := .ready, table := Family.all.map fun f => { v with fam := f },
                     price := (List.range 16).map (BitVec.ofNat 32) }

theorem test_row_invalid : slotOf (.invalid (fieldsAt 25)) ready1 = [(.ok, [25, 0, 0, 0, 0xFFFFFFFF])] := by
  decide +kernel
theorem test_row_nop : slotOf (.nop (fieldsAt 1)) ready1 = [(.ok, [1, 1, 0, 0, 1])] := by decide +kernel
theorem test_row_add : slotOf (.add (fieldsAt 3)) ready1 = [(.ok, [3, 0x00400002, 0, 0, 2])] := by decide +kernel
theorem test_row_sub_M12 : slotOf (.sub (fieldsAt 21)) ready1 = [(.ok, [21, 0x00005003, 1, 0, 3])] := by
  decide +kernel
theorem test_row_mul : slotOf (.mul (fieldsAt 4)) (handReady { invalidV with src0 := .fullOffset })
    = [(.ok, [4, 0x0000A004, 3, 0, 4])] := by decide
theorem test_row_div : slotOf (.div (fieldsAt 5)) (handReady { invalidV with dst0 := .fullAbs })
    = [(.ok, [5, 0x001C0005, 0, 3, 5])] := by decide
theorem test_row_jump_M6 : slotOf (.jump (fieldsAt 11)) ready1 = [(.ok, [11, 0x00016006, 5, 0, 4])] := by
  decide +kernel
theorem test_row_context_M9 : slotOf (.context (fieldsAt 14)) ready1 = [(.ok, [14, 0x00140007, 0, 2, 5])] := by
  decide +kernel
theorem test_row_shift : slotOf (.shift (fieldsAt 8)) (handReady { invalidV with flag1 := true })
    = [(.ok, [8, 0x00800008, 0, 0, 8])] := by decide
theorem test_row_binop : slotOf (.binop (fieldsAt 9)) (handReady { invalidV with sub := 255 })
    = [(.ok, [9, 0x00000FF9, 0, 0, 9])] := by decide
theorem test_row_ptr : slotOf (.ptr (fieldsAt 10)) (handReady { invalidV with src0 := .fullAbs })
    = [(.ok, [10, 0x0000E00A, 4, 0, 10])] := by decide
theorem test_row_nearCall : slotOf (.nearCall (fieldsAt 11)) (handReady { invalidV with src0 := .fullImm })
    = [(.ok, [11, 0x0001200B, 1, 0, 11])] := by decide
theorem test_row_log : slotOf (.log (fieldsAt 24)) ready1 = [(.ok, [24, 0x0040001C, 0, 0, 100])] := by decide +kernel
theorem test_row_farCall : slotOf (.farCall (fieldsAt 13)) (handReady { invalidV with dst0 := .fullPushPop })
    = [(.ok, [13, 0x000C000D, 0, 1, 13])] := by decide
theorem test_row_ret : slotOf (.ret (fieldsAt 19)) ready1 = [(.ok, [19, 0x0000001E, 0, 0, 8])] := by decide +kernel
theorem test_row_uma : slotOf (.uma (fieldsAt 15)) (handReady { invalidV with src0 := .fullPushPop })
    = [(.ok, [15, 0x0000600F, 2, 0, 15])] := by decide
theorem test_row_nopConst : slotOf .nopConst ready1 = [(.ok, [1, 1, 0, 0, 1])] := by decide +kernel
theorem test_row_panicConst_D11 : slotOf .panicConst ready1 = [(.ok, [20, 0x2E, 0, 0, 8])] := by decide +kernel
theorem test_row_gap11_D12 : slotOf (.noncanonicalGap11 (fieldsAt 23) 0) ready1
    = [(.noncanonical, [0, 0, 0, 0, 0xFFFFFFFF])] := by decide +kernel
theorem test_row_gap12 : slotOf (.noncanonicalGap12 (fieldsAt 23)) ready1
    = [(.noncanonical, [0, 0, 0, 0, 0xFFFFFFFF])] := by decide +kernel

/-! ## Steps -/

/-- R136, R244: the step that ends the build answers the held commands in the new state. -/
theorem test_step_ends_build : (nextOf (step lateBuild)).map (fun t => (t.state, t.held, t.answers))
    = some (.ready, [], [{ request := .readPrice 23, resp := .ok, result := .price 100 },
                         { request := .canon 0x800, resp := .ok, result := .canon false }]) := by decide +kernel
/-- X9: a request under reset is dropped. -/
theorem test_X9_dropped : nextOf (step { inReset with inputs := [.request (.req 0)] }) = some inReset := by
  decide +kernel
/-- R247: an assertion of reset drops the held command. -/
theorem test_reset_drops_held :
    (nextOf (step { midBuild with inputs := [.assertReset] })).map (fun t => (t.resetIn, t.held, t.answers))
      = some (true, [], []) := by decide
/-- R241: release samples the CFG_VERSION input. -/
theorem test_release_samples :
    (nextOf (step { inReset with cfgInput := 2, inputs := [.releaseReset] })).map (fun t => t.statusWord)
      = some 0x00200000 := by decide
/-- R25: a configuration outside the premises is refused. -/
theorem test_bad_config_refused :
    step { State.reset with cfg := { toyConfig with versions := [] } } = .refused .configPremise := rfl

/-- The row's word placed by withFetchWord is served by the very next step. -/
theorem test_withFetchWord_codeword :
    (nextOf (step (State.reset.withFetchWord 64 0x10002))).map (fun t => t.answers.map (·.request))
      = some [.add { index := 2, cond := 0, src0Reg := 1, src1Reg := 0, dst0Reg := 0, dst1Reg := 0, imm0 := 0, imm1 := 0 }]
    := by decide +kernel
theorem test_withFetchWord_command :
    (nextOf (step (State.reset.withFetchWord 8 0x8))).map (fun t => t.answers)
      = some [{ request := .readConst 0, resp := .ok, result := .word 1 }] := by decide +kernel

/-! ## Witnesses: the hypotheses of each statement, met by a concrete state and concrete operands -/

theorem ready1_inv : ready1.Inv where
  cfgOk := by decide
  slots := by decide +kernel
  heldKind := by decide
  heldReset := by decide
  heldEnd := by decide
  faultIff := by decide
  countZero := by decide
  building := by decide
  ready := fun _ _ => by decide +kernel
  failed := by intro _ h; exact absurd h (by decide)

theorem failed2_inv : failed2.Inv where
  cfgOk := by decide
  slots := by decide +kernel
  heldKind := by decide
  heldReset := by decide
  heldEnd := by decide
  faultIff := by decide
  countZero := by decide
  building := by decide
  ready := by intro _ h; exact absurd h (by decide)
  failed := fun _ _ => ⟨.unknownVersion, rfl, by decide +kernel⟩

theorem midBuild_inv : midBuild.Inv where
  cfgOk := by decide
  slots := by decide +kernel
  heldKind := by decide
  heldReset := by decide
  heldEnd := by decide
  faultIff := by decide
  countZero := by decide
  building := fun _ _ => by decide +kernel
  ready := by intro _ h; exact absurd h (by decide)
  failed := by intro _ h; exact absurd h (by decide)

theorem lateBuild_inv : lateBuild.Inv where
  cfgOk := by decide
  slots := by decide +kernel
  heldKind := by decide
  heldReset := by decide
  heldEnd := by decide
  faultIff := by decide
  countZero := by decide
  building := fun _ _ => by decide +kernel
  ready := by intro _ h; exact absurd h (by decide)
  failed := by intro _ h; exact absurd h (by decide)

/-- The three states the clauses of the command statements are about; the first three also meet the invariant. -/
theorem witness_states : midBuild.state = .building ∧ failed2.state = .failed ∧ ready1.state = .ready := by decide

theorem witness_StatusAnswersItsFieldsAtOnce :
    (midBuild.Inv ∧ midBuild.resetIn = false ∧ midBuild.state = .building) ∧ ready1.state = .ready
      ∧ (failed2.Inv ∧ failed2.resetIn = false ∧ failed2.state = .failed) :=
  ⟨⟨midBuild_inv, rfl, rfl⟩, rfl, failed2_inv, rfl, rfl⟩
theorem witness_CanonTellsTheGapBits :
    midBuild.state = .building ∧ failed2.state = .failed ∧ ready1.state = .ready := witness_states
theorem witness_DecodeCutsTheWordAndSelectsTheSlot :
    midBuild.state = .building ∧ failed2.state = .failed
      ∧ (ready1.state = .ready ∧ (0x800 : Word).extractLsb' 11 2 ≠ 0 ∧ (0x1000 : Word).extractLsb' 11 2 ≠ 0)
      ∧ (ready1.state = .ready ∧ (0xFFFFFFFFFFFFE7FF : Word).extractLsb' 11 2 = 0
          ∧ readTable ready1.table ((0xFFFFFFFFFFFFE7FF : Word).extractLsb' 0 11) = invalidV)
      ∧ ready1.Inv ∧ ready1.resetIn = false :=
  ⟨rfl, rfl, by decide, by decide +kernel, ready1_inv, rfl⟩
theorem witness_NoncanonicalWordDecodesMasked :
    ready1.Inv ∧ ready1.resetIn = false ∧ ready1.state = .ready ∧ (0x817 : Word).extractLsb' 11 2 ≠ 0 :=
  ⟨ready1_inv, rfl, rfl, by decide⟩
theorem witness_ReadEntryAnswersTheSlot :
    midBuild.state = .building ∧ failed2.state = .failed
      ∧ (ready1.Inv ∧ ready1.resetIn = false ∧ ready1.state = .ready ∧ ready1.count.toNat ≤ (25 : Slot).toNat
          ∧ ready1.count.toNat ≤ (2047 : Slot).toNat) :=
  ⟨rfl, rfl, ready1_inv, rfl, rfl, by decide, by decide⟩
theorem witness_ReadPriceAnswersTheSlot :
    midBuild.state = .building ∧ failed2.state = .failed
      ∧ (ready1.state = .ready ∧ (23 : Word).extractLsb' 11 2 = 0 ∧ (23 : Word).extractLsb' 0 11 = (23 : Slot))
      ∧ (ready1.Inv ∧ ready1.resetIn = false ∧ ready1.state = .ready ∧ ((0 : Slot) = 0 ∨ ready1.count.toNat ≤ (0 : Slot).toNat)
          ∧ ((25 : Slot) = 0 ∨ ready1.count.toNat ≤ (25 : Slot).toNat)) :=
  ⟨rfl, rfl, by decide, ready1_inv, rfl, rfl, by decide, by decide⟩

/-- A hit in the last synthesized slot, the key's bits [31:24] set; the slots below it hold other entries. -/
theorem witness_lookup_hit :
    ready1.state = .ready ∧ ready1.slotsWf = true
      ∧ (readTable ready1.table 24).toEntry.extractLsb' 0 24 = (0xFF40001C : Entry).extractLsb' 0 24
      ∧ ∀ j : Slot, j < 24 →
          (readTable ready1.table j).toEntry.extractLsb' 0 24 ≠ (0xFF40001C : Entry).extractLsb' 0 24 := by
  refine ⟨rfl, by decide +kernel, by decide +kernel, fun j hj => ?_⟩
  have h : ∀ n < 24, (readTable ready1.table (BitVec.ofNat 11 n)).toEntry.extractLsb' 0 24
      ≠ (0xFF40001C : Entry).extractLsb' 0 24 := by decide +kernel
  have := h j.toNat (by simpa [BitVec.lt_def] using hj)
  rwa [BitVec.ofNat_toNat, BitVec.setWidth_eq] at this
/-- A miss: RegOnly with option 3 (L10) is in no slot. -/
theorem witness_lookup_miss :
    ready1.state = .ready ∧ ready1.slotsWf = true
      ∧ ∀ j : Slot, (readTable ready1.table j).toEntry.extractLsb' 0 24 ≠ (0x0000C006 : Entry).extractLsb' 0 24 := by
  refine ⟨rfl, by decide +kernel, fun j => ?_⟩
  have hl : ready1.table.length = 2048 := by decide +kernel
  have h : ∀ v ∈ ready1.table, v.toEntry.extractLsb' 0 24 ≠ (0x0000C006 : Entry).extractLsb' 0 24 := by decide +kernel
  rw [readTable, List.getD_eq_getElem _ _ (hl ▸ j.isLt)]
  exact h _ (List.getElem_mem _)
theorem witness_LookupFindsTheLowestSlot :
    midBuild.state = .building ∧ failed2.state = .failed ∧ ready1.Inv ∧ ready1.resetIn = false ∧ ready1.state = .ready
      ∧ (0xFF000000 : Entry).extractLsb' 0 24 = 0
      ∧ ((0x00400007 : Entry).extractLsb' 0 4 = Family.context.tag ∧ (ready1.cfg.caps.get .context).nFlags.val = 0
          ∧ (0x00400007 : Entry).getLsbD 22 = true)
      ∧ ((0x00800002 : Entry).extractLsb' 0 4 = Family.add.tag ∧ (ready1.cfg.caps.get .add).nFlags.val = 1
          ∧ (0x00800002 : Entry).getLsbD 23 = true) :=
  ⟨rfl, rfl, ready1_inv, rfl, rfl, by decide, by decide, by decide⟩
theorem witness_EncodePacksTheOperands :
    midBuild.state = .building ∧ failed2.state = .failed ∧ ready1.Inv ∧ ready1.resetIn = false ∧ ready1.state = .ready
      ∧ (0xFF000000 : Entry).extractLsb' 0 24 = 0 :=
  ⟨rfl, rfl, ready1_inv, rfl, rfl, by decide⟩
theorem witness_EncodeCoreChecksLookupThenRange :
    cam tablesV1.table (instrOf .sub 0).variant = none ∧ cam tablesV1.table (instrOf .add 8).variant = some 2
      ∧ 2 ^ 3 ≤ (instrOf .add 8).cond ∧ (instrOf .add 7).cond < 2 ^ 3 := by decide +kernel
theorem witness_NoInstructionAnswersRange : ∃ t, exec .status ready1 = .next t ∧ t.answers ≠ [] :=
  ⟨_, rfl, by simp [State.answer]⟩
/-- SUBVAR: minima equal to the version asked (found), one above it, and an index at n_subs (not found). -/
theorem witness_SubvarAnswersAvailableSubvariants :
    midBuild.state = .building ∧ failed2.state = .failed ∧ ready1.state = .ready
      ∧ (∃ sd, (ready1.cfg.caps.get .log).subs[1]? = some sd ∧ (ready1.cfg.caps.get .log).famMin ≤ (1 : Version)
          ∧ sd.subMin ≤ (1 : Version))
      ∧ (∀ sd, (ready1.cfg.caps.get .log).subs[1]? = some sd → ¬ sd.subMin ≤ (0 : Version))
      ∧ (∀ sd, (ready1.cfg.caps.get .log).subs[2]? = some sd → False) := by
  refine ⟨rfl, rfl, rfl, ⟨toySub 1 1 7 100 false false, rfl, by decide, by decide⟩, ?_, ?_⟩
  · intro sd h
    cases h
    decide
  · intro sd h
    cases h
theorem witness_ReadConstAnswersTheDerivedWords :
    midBuild.state = .building ∧ failed2.state = .failed ∧ ready1.state = .ready := witness_states
theorem witness_FamilyCodewordsDecodeToTheirSlot :
    ready1.state = .ready ∧ (Instr.log (fieldsAt 24), Family.log) ∈ familyRows (fieldsAt 24)
      ∧ (readTable ready1.table (fieldsAt 24).index).fam = .log ∧ ready1.Inv ∧ ready1.resetIn = false :=
  ⟨rfl, by decide, by decide +kernel, ready1_inv, rfl⟩
theorem witness_DerivedConstantsDecodeToNopAndPanic :
    ready1.Inv ∧ ready1.resetIn = false ∧ ready1.state = .ready := ⟨ready1_inv, rfl, rfl⟩
theorem witness_NoncanonicalRowsAnswerMasked : ready1.state = .ready := rfl
theorem witness_CodewordRowAnswersAsDecode : ready1.state = .ready := rfl
theorem witness_SelectLinesFollowTheSlot :
    ready1.state = .ready ∧ (7 : Word).extractLsb' 11 2 = 0 ∧ (0xFFFF0000FFFF0007 : Word).extractLsb' 11 2 = 0
      ∧ (0xFFFF0000FFFF0007 : Word).extractLsb' 0 11 = (7 : Word).extractLsb' 0 11 := by decide
theorem witness_HoldUntilTheBuildEnds :
    midBuild.state = .building ∧ heldWhileBuilding (.canon 0) = true ∧ heldWhileBuilding .status = false
      ∧ (midBuild.Inv ∧ midBuild.resetIn = false ∧ midBuild.inputs = []
          ∧ ∃ t, step midBuild = .next t ∧ t.state = .building)
      ∧ (lateBuild.Inv ∧ lateBuild.resetIn = false ∧ lateBuild.state = .building ∧ lateBuild.inputs = []
          ∧ ∃ t, step lateBuild = .next t ∧ t.state ≠ .building)
      ∧ ∃ t, step { midBuild with inputs := [.assertReset] } = .next t :=
  ⟨rfl, rfl, rfl, ⟨midBuild_inv, rfl, rfl, midBuild.tick, step_idle midBuild_inv.cfgOk rfl, by decide +kernel⟩,
    ⟨lateBuild_inv, rfl, rfl, rfl, lateBuild.tick, step_idle lateBuild_inv.cfgOk rfl, by decide +kernel⟩,
    _, step_event (s := { midBuild with inputs := [.assertReset] }) midBuild_inv.cfgOk rfl⟩
theorem witness_FailedServesNothing :
    failed2.state = .failed ∧ heldWhileBuilding (.canon 0) = true ∧ failed2.resetIn = false
      ∧ step failed2 = .next failed2.tick := ⟨rfl, rfl, rfl, step_idle failed2_inv.cfgOk rfl⟩
theorem witness_ReadyIsFrozenUntilReset :
    ready1.state = .ready ∧ (∃ t, exec .status ready1 = .next t) ∧ ready1.resetIn = false
      ∧ (∀ rest, ready1.inputs ≠ .assertReset :: rest) ∧ step ready1 = .next ready1.tick :=
  ⟨rfl, ⟨_, rfl⟩, rfl, fun rest => List.cons_ne_nil _ rest |>.symm, step_idle ready1_inv.cfgOk rfl⟩
theorem witness_ResponsesDoNotDependOnOrder : ready1.state ≠ .building ∧ ∃ t, exec .status ready1 = .next t :=
  ⟨by decide, _, rfl⟩

/-- A state right after a reset release, TOY at version 0, with a request to come. -/
def released0 : State :=
  { State.reset with cfgInput := 0, cfgVersion := 0, inputs := [.request (.req 0)] }
theorem released0_at : AtRelease released0 where
  cfgOk := by decide
  slots := by decide +kernel
  out := rfl
  sampled := rfl
  state := rfl
  fault := rfl
  count := rfl
  hidden := ⟨rfl, rfl, rfl, rfl⟩
  held := rfl
theorem witness_ReleaseHasInvariant : AtRelease released0 := released0_at

/-- A run from a reset release: the build of a one-version registry ends in READY after five steps and the sixth answers
DECODE. -/
def released1 : State :=
  { State.reset with cfg := { toyConfig with versions := [0] }, cfgInput := 0, cfgVersion := 0,
                     inputs := [.tick, .tick, .tick, .tick, .request (.req 0x1)] }
def afterTicks : Nat → State
  | 0 => released1
  | n + 1 => { (afterTicks n).tick with inputs := (afterTicks n).inputs.tail }
theorem witness_AnswersComeFromAWholeBuild :
    AtRelease released1 ∧ (∀ n < 4, nextOf (step (afterTicks n)) = some (afterTicks (n + 1)))
      ∧ (nextOf (step (afterTicks 4))).map (fun t => t.answers.map (fun a => (heldWhileBuilding a.request, a.resp)))
          = some [(true, .ok)] :=
  ⟨{ cfgOk := by decide, slots := by decide +kernel, out := rfl, sampled := rfl, state := rfl, fault := rfl,
     count := rfl, hidden := ⟨rfl, rfl, rfl, rfl⟩, held := rfl }, by decide +kernel, by decide +kernel⟩
theorem witness_UnreadableTablesReachNothing :
    SameButTables lateBuild { lateBuild with table := [], price := [7], nopWord := 3, panicWord := 4 }
      ∧ lateBuild.state ≠ .ready ∧ lateBuild.resetIn = false ∧ step lateBuild = .next lateBuild.tick
      ∧ lateBuild.tick.state = .ready := 
  ⟨rfl, by decide, rfl, step_idle lateBuild_inv.cfgOk rfl, by decide +kernel⟩
theorem witness_StepRunsTheDecodedInstruction :
    ready1.cfg.wf = true ∧ ready1.resetIn = false
      ∧ ({ ready1 with inputs := [.request (.cw 0x10002)] } : State).inputs = .request (.cw 0x10002) :: []
      ∧ wellFormed ready1.cwContext (decode ready1.cwContext (.cw 0x10002)) = true := by decide +kernel
theorem witness_ResetDropsEverything :
    inReset.cfg.wf = true ∧ inReset.resetIn = true
      ∧ ({ inReset with inputs := [.request (.req 0)] } : State).inputs = .request (.req 0) :: []
      ∧ ({ inReset with inputs := [.assertReset] } : State).inputs = .assertReset :: []
      ∧ ({ inReset with inputs := [.releaseReset] } : State).inputs = .releaseReset :: [] := by decide
theorem witness_ResetReleaseSamplesTheVersion :
    inReset.cfg.wf = true ∧ inReset.resetIn = true
      ∧ ({ inReset with inputs := [.releaseReset] } : State).inputs = .releaseReset :: []
      ∧ ({ ready1 with inputs := [.driveCfgVersion 0] } : State).inputs = .driveCfgVersion 0 :: [] := by decide
/-- One bad configuration per premise, at its boundary, and a good one. -/
theorem witness_OnlyABadConfigurationIsRefused :
    ¬ ([1, 1] : List Version).Pairwise (· < ·)
      ∧ ((toyWith { toyCaps with uma := { toyCaps.uma with subs := [] } }).caps.get .uma).subs.length < 1
      ∧ 256 < ((toyWith { toyCaps with uma := shiftFull 257 }).caps.get .uma).subs.length
      ∧ toyConfig.caps.ret.subs.length ≤ (3 : SubIdx).toNat
      ∧ (toyConfig.versions ≠ [] ∧ toyConfig.versions.Pairwise (· < ·)
        ∧ (∀ f, 1 ≤ (toyConfig.caps.get f).subs.length ∧ (toyConfig.caps.get f).subs.length ≤ 256)
        ∧ toyConfig.panicSub.toNat < toyConfig.caps.ret.subs.length) := by
  refine ⟨by decide, by decide, by decide +kernel, by decide, by decide, by decide, fun f => ?_, by decide⟩
  have h : ∀ f ∈ Family.all, 1 ≤ (toyConfig.caps.get f).subs.length ∧ (toyConfig.caps.get f).subs.length ≤ 256 := by
    decide
  exact h f (Family.mem_all f)
theorem witness_StateMovesOnlyAsSpecified : ∃ t, step lateBuild = .next t ∧ t.state = .ready :=
  ⟨lateBuild.tick, step_idle lateBuild_inv.cfgOk rfl, by decide +kernel⟩
theorem witness_StepKeepsInvariant : lateBuild.Inv ∧ step lateBuild = .next lateBuild.tick :=
  ⟨lateBuild_inv, step_idle lateBuild_inv.cfgOk rfl⟩
theorem witness_BuildFaultIsRaisedInOneStep :
    ∃ t, midBuild.resetIn = false ∧ midBuild.state = .building
      ∧ ({ midBuild with found := some .tableOverflow } : State).found = some .tableOverflow
      ∧ step { midBuild with found := some .tableOverflow } = .next t :=
  ⟨_, rfl, rfl, rfl, step_idle midBuild_inv.cfgOk rfl⟩
/-- No two family names of TOY, and of B3, are equal. -/
theorem toy_names (f g : Family) (h : f ≠ g) : (toyConfig.caps.get f).name ≠ (toyConfig.caps.get g).name := by
  have h' : ∀ f ∈ Family.all, ∀ g ∈ Family.all, f ≠ g →
      (toyConfig.caps.get f).name ≠ (toyConfig.caps.get g).name := by decide +kernel
  exact h' f (Family.mem_all f) g (Family.mem_all g) h
theorem cfgB3_names (f g : Family) (h : f ≠ g) : (cfgB3.caps.get f).name ≠ (cfgB3.caps.get g).name := by
  have h' : ∀ f ∈ Family.all, ∀ g ∈ Family.all, f ≠ g →
      (cfgB3.caps.get f).name ≠ (cfgB3.caps.get g).name := by decide +kernel
  exact h' f (Family.mem_all f) g (Family.mem_all g) h
/-- The four clauses: B1; TOY at version 2; B3 at version 1; TOY at version 1. -/
theorem witness_ValidationFaultsInOrder :
    (∃ f g : Family, f ≠ g ∧ (cfgB1.caps.get f).name = (cfgB1.caps.get g).name)
      ∧ ((∀ f g : Family, f ≠ g → (toyConfig.caps.get f).name ≠ (toyConfig.caps.get g).name)
          ∧ (2 : Version) ∉ toyConfig.versions)
      ∧ ((∀ f g : Family, f ≠ g → (cfgB3.caps.get f).name ≠ (cfgB3.caps.get g).name) ∧ (1 : Version) ∈ cfgB3.versions
          ∧ ∃ u ∈ cfgB3.versions, u ≤ (1 : Version)
            ∧ ∃ f, (cfgB3.caps.get f).famMin ≤ u ∧ (cfgB3.caps.get f).dstClass u = .regOrImm16)
      ∧ ((∀ f g : Family, f ≠ g → (toyConfig.caps.get f).name ≠ (toyConfig.caps.get g).name)
          ∧ (1 : Version) ∈ toyConfig.versions
          ∧ ∀ u ∈ toyConfig.versions, u ≤ (1 : Version) →
              ∀ f, (toyConfig.caps.get f).famMin ≤ u → (toyConfig.caps.get f).dstClass u ≠ .regOrImm16) := by
  refine ⟨⟨.mul, .div, by decide, by decide⟩, ⟨toy_names, by decide⟩,
    ⟨cfgB3_names, by decide, 1, by decide, by decide, .context, by decide, by decide⟩,
    toy_names, by decide, fun u hu _ f _ => ?_⟩
  have h : ∀ u ∈ toyConfig.versions, ∀ f ∈ Family.all, (toyConfig.caps.get f).dstClass u ≠ .regOrImm16 := by
    decide +kernel
  exact h u hu f (Family.mem_all f)
/-- `Validated`, from its conditions over the list of all families, which can be evaluated. -/
theorem validated_of {cfg : Configuration} {v : Version}
    (h : (∀ f ∈ Family.all, ∀ g ∈ Family.all, f ≠ g → (cfg.caps.get f).name ≠ (cfg.caps.get g).name)
      ∧ v ∈ cfg.versions
      ∧ ∀ u ∈ cfg.versions, u ≤ v → ∀ f ∈ Family.all, (cfg.caps.get f).famMin ≤ u →
          (cfg.caps.get f).dstClass u ≠ .regOrImm16) : Validated cfg v :=
  ⟨fun f g => h.1 f (Family.mem_all f) g (Family.mem_all g), h.2.1,
    fun u hu huv f => h.2.2 u hu huv f (Family.mem_all f)⟩
/-- In TOY's registry the only later version is 1. -/
theorem lacks_only {cfg : Configuration} {v : Version} (hv : cfg.versions = [0, 1])
    (h : 1 ≤ v → ∀ a, accumulatorAt cfg 0 = .ok a → ∀ x ∈ a, ∃ y ∈ enum cfg.caps 1, semEq x y = true) :
    ¬ LacksPredecessor cfg v := by
  rintro ⟨pre, u, w, post, a, hs, hw, ha, x, hx, hn⟩
  rw [hv] at hs
  have hu : u = 0 ∧ w = 1 := by
    match pre with
    | [] => simp at hs; exact ⟨hs.1.symm, hs.2.1.symm⟩
    | [_] => simp at hs
    | _ :: _ :: _ => simp at hs
  obtain ⟨rfl, rfl⟩ := hu
  obtain ⟨y, hy, hxy⟩ := h hw a ha x hx
  rw [hn y hy] at hxy
  cases hxy
/-- Nothing is folded at version 0 of TOY's registry. -/
theorem lacks_none_at_0 {cfg : Configuration} (hv : cfg.versions = [0, 1]) : ¬ LacksPredecessor cfg 0 :=
  lacks_only hv fun h => absurd h (by decide)
/-- B9 with one entry more, 2049. -/
def cfgOver : Configuration :=
  toyWith { cfgB9.caps with binop := toyFamily 9 0 (List.replicate 12 (toySub 0 0 0 0 false true)) 0 0 }
/-- The five clauses: B5 at 1; B7 at 0; 2049 entries; B12 at 0, no Nop; 2048 entries (B9), which succeed. -/
theorem witness_LaterFaultsInOrder :
    (cfgB5.wf = true ∧ Validated cfgB5 1 ∧ LacksPredecessor cfgB5 1)
      ∧ (cfgB7.wf = true ∧ Validated cfgB7 0 ∧ ¬ LacksPredecessor cfgB7 0
          ∧ accumulatorAt cfgB7 0 = .ok (enum cfgB7.caps 0) ∧ (enum cfgB7.caps 0).head? ≠ some invalidV)
      ∧ (cfgOver.wf = true ∧ Validated cfgOver 0 ∧ ¬ LacksPredecessor cfgOver 0
          ∧ accumulatorAt cfgOver 0 = .ok (enum cfgOver.caps 0) ∧ (enum cfgOver.caps 0).head? = some invalidV
          ∧ (enum cfgOver.caps 0).length = 2049)
      ∧ (cfgB12.wf = true ∧ Validated cfgB12 0 ∧ ¬ LacksPredecessor cfgB12 0
          ∧ accumulatorAt cfgB12 0 = .ok (enum cfgB12.caps 0) ∧ (enum cfgB12.caps 0).head? = some invalidV
          ∧ (enum cfgB12.caps 0).length ≤ 2048 ∧ ¬ HoldsDerived cfgB12 0 (enum cfgB12.caps 0) .nop 0)
      ∧ (cfgB9.wf = true ∧ Validated cfgB9 0 ∧ ¬ LacksPredecessor cfgB9 0
          ∧ accumulatorAt cfgB9 0 = .ok (enum cfgB9.caps 0) ∧ (enum cfgB9.caps 0).head? = some invalidV
          ∧ (enum cfgB9.caps 0).length = 2048 ∧ HoldsDerived cfgB9 0 (enum cfgB9.caps 0) .nop 0
          ∧ HoldsDerived cfgB9 0 (enum cfgB9.caps 0) .ret cfgB9.panicSub) := by
  refine ⟨⟨by decide +kernel, validated_of (by decide +kernel), [], 0, 1, [], enum cfgB5.caps 0, rfl, by decide,
      by decide +kernel, by decide +kernel⟩,
    ⟨by decide +kernel, validated_of (by decide +kernel), lacks_none_at_0 rfl, by decide +kernel, by decide +kernel⟩,
    ⟨by decide +kernel, validated_of (by decide +kernel), lacks_none_at_0 rfl, by decide +kernel, by decide +kernel,
      by decide +kernel⟩,
    ⟨by decide +kernel, validated_of (by decide +kernel), lacks_none_at_0 rfl, by decide +kernel, by decide +kernel,
      by decide +kernel, ?_⟩,
    ⟨by decide +kernel, validated_of (by decide +kernel), lacks_none_at_0 rfl, by decide +kernel, by decide +kernel,
      by decide +kernel, ⟨.regOnly, by decide +kernel, by decide +kernel⟩, .regOnly, by decide +kernel,
      by decide +kernel⟩⟩
  rintro ⟨d, hd, hm⟩
  have : d = .regOnly := by
    have h : ((cfgB12.caps.get .nop).dstClass 0).dstFirst = some .regOnly := by decide +kernel
    rw [h] at hd; cases hd; rfl
  subst this
  exact absurd hm (by decide +kernel)
/-- At version 1 TOY lacks no predecessor. -/
theorem witness_LaterFaultsInOrder_later :
    Validated toyConfig 1 ∧ ¬ LacksPredecessor toyConfig 1 := by
  refine ⟨validated_of (by decide +kernel), lacks_only rfl fun _ a ha => ?_⟩
  have h : accumulatorAt toyConfig 0 = .ok (enum toyCaps 0) := by decide +kernel
  rw [h] at ha
  cases ha
  decide +kernel
theorem witness_BuildEndsWithTheSpecifiedOutcome :
    midBuild.Inv ∧ midBuild.resetIn = false ∧ midBuild.state = .building ∧ midBuild.inputs = []
      ∧ build midBuild.cfg midBuild.cfgVersion = .ok tablesV1 := ⟨midBuild_inv, rfl, rfl, rfl, test_build_toy_v1⟩
theorem witness_SynthesizedEntriesAreDistinct :
    toyConfig.wf = true ∧ build toyConfig 1 = .ok tablesV1 ∧ (23 : Nat) < 24 ∧ 24 < tablesV1.count.toNat :=
  ⟨by decide, test_build_toy_v1, by decide, by decide⟩
theorem witness_IndicesAreStableAcrossVersions :
    toyConfig.wf = true ∧ (0 : Version) < 1 ∧ build toyConfig 0 = .ok tablesV0 ∧ build toyConfig 1 = .ok tablesV1
      ∧ 20 < tablesV0.count.toNat := ⟨by decide, by decide, test_build_toy_v0, test_build_toy_v1, by decide⟩
theorem witness_LaterVersionsHaveNoPart : toyConfig.wf = true := by decide
theorem witness_EnumerationListsTheVariantsInOrder : toyConfig.wf = true := by decide
/-- The predecessor clauses at version 1: TOY has them all, B5 lacks one. No fold within the premises ends with a fault at
the earliest version, so the clause of an earlier fault is met at the second of two later versions. -/
theorem witness_LaterVersionsAreMergedInOrder :
    toyConfig.wf = true ∧ toyConfig.versions = [] ++ 0 :: 1 :: []
      ∧ accumulatorAt toyConfig 0 = .ok (enum toyCaps 0)
      ∧ (∀ x ∈ enum toyCaps 0, ∃ y ∈ enum toyCaps 1, semEq x y = true)
      ∧ cfgB5.wf = true ∧ cfgB5.versions = [] ++ 0 :: 1 :: [] ∧ accumulatorAt cfgB5 0 = .ok (enum cfgB5.caps 0)
      ∧ (∃ x ∈ enum cfgB5.caps 0, ∀ y ∈ enum cfgB5.caps 1, semEq x y = false)
      ∧ ({ cfgB5 with versions := [0, 1, 2] } : Configuration).wf = true
      ∧ accumulatorAt { cfgB5 with versions := [0, 1, 2] } 1 = .error .missingPredecessor := by decide +kernel
/-- At the earliest version and at a later one. -/
theorem witness_BuiltTablesHaveTheSpecifiedShape :
    build toyConfig 1 = .ok tablesV1 ∧ tablesV1.count.toNat ≤ (25 : Slot).toNat
      ∧ build toyConfig 0 = .ok tablesV0 ∧ toyConfig.wf = true ∧ toyConfig.versions.head? = some 0 :=
  ⟨test_build_toy_v1, by decide, test_build_toy_v0, by decide, rfl⟩
theorem witness_PricesFollowTheDescriptor :
    ready1.Inv ∧ ready1.resetIn = false ∧ ready1.state = .ready
      ∧ (readTable ready1.table 0).fam = .invalid ∧ (readTable ready1.table 23).fam = .log
      ∧ (readTable ready1.table 24).fam = .log ∧ (readTable ready1.table 24).sub = (readTable ready1.table 23).sub :=
  ⟨ready1_inv, rfl, rfl, by decide +kernel⟩
theorem witness_CamIsALinearSearch : tablesV1.table.length = 2048 ∧ readTable tablesV1.table 0 = invalidV := by
  decide +kernel
theorem witness_EncodeThenDecodeGivesTheInstruction :
    ready1.Inv ∧ ready1.resetIn = false ∧ ready1.state = .ready ∧ (24 : Slot).toNat < ready1.count.toNat
      ∧ (0xFF40001C : Entry).extractLsb' 0 24 = (readTable ready1.table 24).toEntry.extractLsb' 0 24 :=
  ⟨ready1_inv, rfl, rfl, by decide, by decide +kernel⟩
theorem witness_DecodeThenEncodeGivesTheWord :
    ready1.Inv ∧ ready1.resetIn = false ∧ ready1.state = .ready ∧ (0x18 : Word).extractLsb' 11 2 = 0
      ∧ ((0x18 : Word).extractLsb' 0 11).toNat < ready1.count.toNat
      ∧ ready1.count.toNat ≤ ((0x19 : Word).extractLsb' 0 11).toNat ∧ (0x1800 : Word).extractLsb' 11 2 ≠ 0 :=
  ⟨ready1_inv, rfl, rfl, by decide, by decide, by decide, by decide⟩
/-- READY in the configuration of B12 and B13 at version 1, whose build at version 0 fails. -/
def ready13 : State := { readyWith 1 ((build cfgB12 1).toOption.getD tablesV1) with cfg := cfgB12 }
theorem ready13_inv : ready13.Inv where
  cfgOk := by decide
  slots := by decide +kernel
  heldKind := by decide
  heldReset := by decide
  heldEnd := by decide
  faultIff := by decide
  countZero := by decide +kernel
  building := by decide
  ready := fun _ _ => by decide +kernel
  failed := by intro _ h; exact absurd h (by decide)
/-- The version 0 accumulator of B12 holds Sub at index 3 with the spelling 0x00000003, which version 1 overwrites. -/
theorem witness_SupersededSpellingsMiss :
    ready13.Inv ∧ ready13.resetIn = false ∧ ready13.state = .ready ∧ (0 : Version) < ready13.cfgVersion
      ∧ accumulatorAt ready13.cfg 0 = .ok (enum cfgB12.caps 0)
      ∧ (enum cfgB12.caps 0)[3]? = some { invalidV with fam := .sub }
      ∧ ready13.table[3]? ≠ some { invalidV with fam := .sub }
      ∧ (3 : Entry).extractLsb' 0 24 = ({ invalidV with fam := .sub } : Variant).toEntry.extractLsb' 0 24
      ∧ build cfgB12 0 = .error .derivedConstMiss :=
  ⟨ready13_inv, rfl, rfl, by decide, by decide +kernel, by decide +kernel, by decide +kernel, by decide,
    by decide +kernel⟩
theorem witness_EntryFormatIsFaithful : Variant.ofEntry 0xFF00001C = some { invalidV with fam := .log, sub := 1 } := by
  decide
theorem witness_SubvarAnswersAreStable :
    ready1.state = .ready ∧ (1 : Version) ≤ 255
      ∧ ∃ r, exec (.subvar 12 1 1) ready1
          = .next { ready1 with answers := [{ request := .subvar 12 1 1, resp := .ok, result := r }] } :=
  ⟨rfl, by decide, _, rfl⟩
theorem witness_DecodeOfEncodeIsTheInstruction :
    wellFormed handCtx (.uma (fieldsAt 15)) = true ∧ wellFormed handCtx .panicConst = true
      ∧ wellFormed handCtx (.reservedCmdCF 3 0) = true := by decide
theorem witness_EncodeOfDecodedCodewordIsTheWord : handCtx.ready = true := rfl
theorem witness_CommandCodesSelectTheRow : commandCode (.reservedCmdAB 1 0) = some 0xB := by decide

end Sys2Proof.Tests
end

