-- ==== Sys2Proof/Proofs/State.lean ====
section
/-! PROOFS. The state of the block (spec/10_state.md): what an instruction and a step can change, the invariant of the
machine, and what the unreadable tables cannot reach. -/

namespace Sys2Proof

/-! ## The premises of a configuration (R25) -/

/-- The check of R25 (a) is Mathlib's pairwise order. -/
theorem strictlyIncreasing_iff (l : List Version) : strictlyIncreasing l = true ↔ l.Pairwise (· < ·) := by
  rw [← List.isChain_iff_pairwise]
  induction l with
  | nil => simp [strictlyIncreasing]
  | cons a l ih =>
    cases l with
    | nil => simp [strictlyIncreasing]
    | cons b rest => simp [strictlyIncreasing, ih]

theorem Caps.get_ret (c : Caps) : c.get .ret = c.ret := rfl

/-- The premises of R25, written out. -/
theorem Configuration.wf_iff (cfg : Configuration) :
    cfg.wf = true ↔ cfg.versions ≠ [] ∧ cfg.versions.Pairwise (· < ·)
      ∧ (∀ f, 1 ≤ (cfg.caps.get f).subs.length ∧ (cfg.caps.get f).subs.length ≤ 256)
      ∧ cfg.panicSub.toNat < cfg.caps.ret.subs.length := by
  rw [← Caps.get_ret]
  simp [Configuration.wf, strictlyIncreasing_iff, Descriptor.subsOk, Family.mem_all, and_assoc]

/-! ## The fold over the versions and what a successful build holds (R121, R126 to R135) -/

/-- The fold ends at the end of the registry and at the first version above CFG_VERSION (R130). -/
theorem foldLater_stop {c : Caps} {v : Version} {vs : List Version} (h : vs = [] ∨ ∃ w rest, vs = w :: rest ∧ ¬ w ≤ v)
    (acc : List Variant) : foldLater c v acc vs = .ok acc := by
  obtain rfl | ⟨w, rest, rfl, hw⟩ := h
  · rfl
  · simp [foldLater, hw]

theorem foldAndFinish_stop {cfg : Configuration} {v : Version} {acc : List Variant} {vs : List Version}
    (h : vs = [] ∨ ∃ w rest, vs = w :: rest ∧ ¬ w ≤ v) : foldAndFinish cfg v acc vs = finishBuild cfg v acc := by
  rw [foldAndFinish, foldLater_stop h]

theorem foldAndFinish_error {cfg : Configuration} {v w : Version} {acc : List Variant} {vs : List Version}
    {f : BuildFault} (hw : w ≤ v) (h : foldVersion cfg.caps acc w = .error f) :
    foldAndFinish cfg v acc (w :: vs) = .error f := by
  simp [foldAndFinish, foldLater, hw, h]

theorem foldAndFinish_ok {cfg : Configuration} {v w : Version} {acc acc' : List Variant} {vs : List Version}
    (hw : w ≤ v) (h : foldVersion cfg.caps acc w = .ok acc') :
    foldAndFinish cfg v acc (w :: vs) = foldAndFinish cfg v acc' vs := by
  simp [foldAndFinish, foldLater, hw, h]

theorem build_table_length {cfg : Configuration} {v : Version} {t : Tables} (h : build cfg v = .ok t) :
    t.table.length = tableLen := by
  obtain ⟨-, acc, -, hfin⟩ := build_ok h
  obtain ⟨-, hlen, htable, -⟩ := finishBuild_ok hfin
  rw [htable, padTable_length hlen]

theorem build_price_eq {cfg : Configuration} {v : Version} {t : Tables} (h : build cfg v = .ok t) :
    t.price = fillPrices cfg.caps t.table := by
  obtain ⟨-, acc, -, hfin⟩ := build_ok h
  obtain ⟨-, -, htable, -, hprice, -⟩ := finishBuild_ok hfin
  rw [hprice, htable]

theorem build_price_length {cfg : Configuration} {v : Version} {t : Tables} (h : build cfg v = .ok t) :
    t.price.length = tableLen := by
  rw [build_price_eq h, fillPrices_length, build_table_length h]

/-- A successful build pads the accumulator of the fold, and COUNT is its length (R131 to R133). -/
theorem build_ok_accumulator {cfg : Configuration} {v : Version} {T : Tables} (h : build cfg v = .ok T) :
    ∃ acc, accumulatorAt cfg v = .ok acc ∧ acc.head? = some invalidV ∧ acc.length ≤ tableLen
      ∧ T.table = padTable acc ∧ T.count.toNat = acc.length := by
  obtain ⟨-, acc, hacc, hfin⟩ := build_ok h
  obtain ⟨hhead, hlen, htable, hcount, -⟩ := finishBuild_ok hfin
  refine ⟨acc, hacc, hhead, hlen, htable, ?_⟩
  rw [hcount, BitVec.toNat_ofNat, Nat.mod_eq_of_lt (hlen.trans_lt (by decide))]

theorem padTable_take (acc : List Variant) : (padTable acc).take acc.length = acc := by
  simp [padTable]

theorem foldFirst_ok {c : Caps} {v : Version} {acc : List Variant} (h : foldFirst c v = .ok acc) :
    acc = enum c v := by
  simp only [foldFirst] at h
  split at h
  · cases h; rfl
  · cases h

/-- A build at the earliest version takes in no later one (R126, R130). -/
theorem accumulatorAt_earliest {cfg : Configuration} {v : Version} (hinc : cfg.versions.Pairwise (· < ·))
    (hv : cfg.versions.head? = some v) {acc : List Variant} (h : accumulatorAt cfg v = .ok acc) :
    acc = enum cfg.caps v := by
  obtain ⟨vs, hvs⟩ := List.head?_eq_some_iff.mp hv
  rw [hvs, List.pairwise_cons] at hinc
  have hstop : vs = [] ∨ ∃ w rest, vs = w :: rest ∧ ¬ w ≤ v := by
    cases vs with
    | nil => exact .inl rfl
    | cons w rest => exact .inr ⟨w, rest, rfl, BitVec.not_le.mpr (hinc.1 w List.mem_cons_self)⟩
  unfold accumulatorAt at h
  rw [show earliest cfg = v by simp [earliest, hvs], hvs, List.drop_one, List.tail_cons] at h
  cases hfirst : foldFirst cfg.caps v with
  | error e => rw [hfirst] at h; cases h
  | ok a =>
    rw [hfirst] at h
    cases (foldLater_stop hstop a).symm.trans h
    exact foldFirst_ok hfirst

end Sys2Proof

namespace Sys2Proof.Machine

open Sys2Proof

/-! ## What an instruction does: every arm of `exec` is `serve` or an immediate answer -/

/-- The response an instruction's own rule gives: in READY for the held commands, in every state for STATUS and the
reserved codes (R82, R219). -/
def ownResponse (s : State) : Instr → RespCode × Result
  | .status => (.ok, .status s.statusWord)
  | .decode w => s.decodeAnswer w
  | .canon w => (.ok, .canon (canonical w))
  | .encode key cond s0 s1 d0 d1 i0 i1 => s.encodeAnswer key cond s0 s1 d0 d1 i0 i1
  | .lookup key => s.lookupAnswer key
  | .readEntry i => (.ok, .entry (readTable s.table i).toEntry)
  | .readPrice i => (.ok, .price (readPriceSlot s.price i))
  | .subvar f sidx ver => s.subvarAnswer f sidx ver
  | .readConst sel => (.ok, .word (if sel = 0 then s.nopWord else s.panicWord))
  | .reservedCmd9 _ => (.badCmd, .zero)
  | .reservedCmdAB _ _ => (.badCmd, .zero)
  | .reservedCmdCF _ _ => (.badCmd, .zero)
  | .invalid c => s.decodeAnswer (codeword c)
  | .nop c => s.decodeAnswer (codeword c)
  | .add c => s.decodeAnswer (codeword c)
  | .sub c => s.decodeAnswer (codeword c)
  | .mul c => s.decodeAnswer (codeword c)
  | .div c => s.decodeAnswer (codeword c)
  | .jump c => s.decodeAnswer (codeword c)
  | .context c => s.decodeAnswer (codeword c)
  | .shift c => s.decodeAnswer (codeword c)
  | .binop c => s.decodeAnswer (codeword c)
  | .ptr c => s.decodeAnswer (codeword c)
  | .nearCall c => s.decodeAnswer (codeword c)
  | .log c => s.decodeAnswer (codeword c)
  | .farCall c => s.decodeAnswer (codeword c)
  | .ret c => s.decodeAnswer (codeword c)
  | .uma c => s.decodeAnswer (codeword c)
  | .nopConst => s.decodeAnswer s.nopWord
  | .panicConst => s.decodeAnswer s.panicWord
  | .noncanonicalGap11 c gap12 => s.decodeAnswer (codewordBits c (gap12 ++ 1#1))
  | .noncanonicalGap12 c => s.decodeAnswer (codewordBits c 2)

/-- Every arm of `exec` at once: the commands of the hold rule go through the response order of R219, STATUS and the
reserved codes are answered in every state (R193, R194, R244). -/
theorem exec_eq (i : Instr) (s : State) :
    exec i s = if heldWhileBuilding i then serve i (zeroRecord i) (ownResponse s i) s
      else .next (s.answer i (ownResponse s i).1 (ownResponse s i).2) := by
  cases i <;> rfl

theorem exec_of_held {i : Instr} (hi : heldWhileBuilding i = true) (s : State) :
    exec i s = serve i (zeroRecord i) (ownResponse s i) s := by
  rw [exec_eq, if_pos hi]

theorem exec_of_atOnce {i : Instr} (hi : heldWhileBuilding i = false) (s : State) :
    exec i s = .next (s.answer i (ownResponse s i).1 (ownResponse s i).2) := by
  rw [exec_eq, if_neg (Bool.eq_false_iff.mp hi)]

theorem exec_ready (i : Instr) {s : State} (h : s.state = .ready) :
    exec i s = .next (s.answer i (ownResponse s i).1 (ownResponse s i).2) := by
  cases hi : heldWhileBuilding i with
  | false => exact exec_of_atOnce hi s
  | true => rw [exec_of_held hi, serve_ready h]

theorem exec_building {i : Instr} (hi : heldWhileBuilding i = true) {s : State} (h : s.state = .building) :
    exec i s = .next (s.hold i) := by
  rw [exec_of_held hi, serve_building h]

theorem exec_failed {i : Instr} (hi : heldWhileBuilding i = true) {s : State} (h : s.state = .failed) :
    exec i s = .next (s.answer i .failed (zeroRecord i)) := by
  rw [exec_of_held hi, serve_failed h]

/-- Everything an instruction can do: it is held, which only BUILDING does to a command of the hold rule, or it is
answered (R221, R244). -/
theorem exec_cases (i : Instr) (s : State) :
    (s.state = .building ∧ heldWhileBuilding i = true ∧ exec i s = .next (s.hold i))
      ∨ ∃ c r, exec i s = .next (s.answer i c r) := by
  cases hi : heldWhileBuilding i with
  | false => exact .inr ⟨_, _, exec_of_atOnce hi s⟩
  | true =>
    cases hs : s.state with
    | building => exact .inl ⟨rfl, rfl, exec_building hi hs⟩
    | ready => exact .inr ⟨_, _, exec_ready i hs⟩
    | failed => exact .inr ⟨_, _, exec_failed hi hs⟩

/-- No instruction faults or is refused (R221). -/
theorem exec_total (i : Instr) (s : State) : ∃ t, exec i s = .next t := by
  obtain ⟨-, -, h⟩ | ⟨_, _, h⟩ := exec_cases i s
  · exact ⟨_, h⟩
  · exact ⟨_, h⟩

/-! ## Steps always go on: the one refusal is the configuration's (R25) -/

theorem stepInput_releaseReset {s : State} (hr : s.resetIn = true) :
    stepInput .releaseReset s = .next s.releaseReset := by
  simp [stepInput, hr]

theorem stepInput_releaseReset_idle {s : State} (hr : s.resetIn = false) :
    stepInput .releaseReset s = .next s.quiet := by
  simp [stepInput, hr]

theorem stepInput_request_dropped {s : State} (hr : s.resetIn = true) (p : PortWord) :
    stepInput (.request p) s = .next s.quiet := by
  simp [stepInput, hr]

theorem stepInput_request {s : State} (hr : s.resetIn = false) (p : PortWord) :
    stepInput (.request p) s = exec (s.fetch p) s := by
  simp [stepInput, hr]

/-- Every event has an outcome that is a next state. -/
theorem stepInput_total (e : Input) (s : State) : ∃ t, stepInput e s = .next t := by
  cases e with
  | tick => exact ⟨_, rfl⟩
  | assertReset => exact ⟨_, rfl⟩
  | releaseReset => exact ⟨_, rfl⟩
  | driveCfgVersion v => exact ⟨_, rfl⟩
  | request p =>
    cases hr : s.resetIn with
    | true => exact ⟨_, stepInput_request_dropped hr p⟩
    | false => rw [stepInput_request hr]; exact exec_total _ s

/-- Within the premises of R25 every step gives a next state. -/
theorem step_total {s : State} (hw : s.cfg.wf = true) : ∃ t, step s = .next t := by
  cases hi : s.inputs with
  | nil => exact ⟨_, step_idle hw hi⟩
  | cons e rest => rw [step_event hw hi]; exact stepInput_total e _

theorem step_refused {s : State} (hw : s.cfg.wf = false) : step s = .refused .configPremise := by
  simp [step, hw]

/-- Settles O29: the premises of R25 are what `Configuration.wf` checks, and `step` refuses on nothing else. -/
theorem onlyABadConfigurationIsRefused : Obligations.OnlyABadConfigurationIsRefused := by
  intro s
  constructor
  · intro hbad
    refine step_refused (Bool.eq_false_iff.mpr fun hw => ?_)
    obtain ⟨hne, hinc, hsubs, hpanic⟩ := (Configuration.wf_iff _).mp hw
    obtain h | h | ⟨f, h⟩ | h := hbad
    · exact hne h
    · exact h hinc
    · have := hsubs f; omega
    · omega
  · intro hne hinc hsubs hpanic
    exact step_total ((Configuration.wf_iff _).mpr ⟨hne, hinc, hsubs, hpanic⟩)

/-! ## STATE moves, and READY stays (R31, R40) -/

/-- An instruction leaves STATE alone. -/
theorem exec_state {i : Instr} {s t : State} (h : exec i s = .next t) : t.state = s.state := by
  obtain ⟨-, -, h'⟩ | ⟨_, _, h'⟩ := exec_cases i s <;> cases h'.symm.trans h <;> rfl

/-- The block's own step moves STATE only out of BUILDING, and only out of reset. -/
theorem tick_state (s : State) :
    s.tick.state = s.state
      ∨ (s.state = .building ∧ s.resetIn = false ∧ (s.tick.state = .ready ∨ s.tick.state = .failed)) := by
  obtain ⟨-, h⟩ | ⟨-, hb, hb', h⟩ | ⟨hr, hb, hb', h⟩ := tick_cases s <;> rw [h]
  · exact .inl rfl
  · exact .inl (hb'.trans hb.symm)
  · refine .inr ⟨hb, hr, ?_⟩
    cases hs : s.buildStep.state with
    | building => exact absurd hs hb'
    | ready => exact .inl hs
    | failed => exact .inr hs

theorem tick_idle {s : State} (h : s.resetIn = true ∨ s.state ≠ .building) : s.tick = s.quiet := by
  obtain hr | hb := h
  · simp [State.tick, hr]
  · simp [State.tick, hb]

theorem tick_building {s : State} (hr : s.resetIn = false) (hb : s.state = .building)
    (hb' : s.buildStep.state = .building) : s.tick = s.buildStep.quiet := by
  simp [State.tick, hr, hb, hb']

theorem tick_end {s : State} (hr : s.resetIn = false) (hb : s.state = .building)
    (hb' : s.buildStep.state ≠ .building) : s.tick = s.buildStep.releaseHeld := by
  simp [State.tick, hr, hb, hb']

/-- Settles O30: only the build's own step and a release of an asserted reset touch STATE. -/
theorem stateMovesOnlyAsSpecified : Obligations.StateMovesOnlyAsSpecified := by
  intro s t h
  obtain ⟨-, ⟨-, rfl⟩ | ⟨e, rest, hin, he⟩⟩ := step_cases h
  · exact (tick_state s).imp_right .inl
  · obtain ⟨-, rfl⟩ | ⟨-, rfl⟩ | ⟨rfl, hr, rfl⟩ | ⟨-, -, rfl⟩ | ⟨_, -, rfl⟩ | ⟨_, -, -, rfl⟩ | ⟨_, -, -, hx⟩ :=
      stepInput_cases he
    · exact (tick_state { s with inputs := rest }).imp_right .inl
    · exact .inl rfl
    · exact .inr (.inr ⟨hr, rfl, rest, hin⟩)
    · exact .inl rfl
    · exact .inl rfl
    · exact .inl rfl
    · exact .inl (exec_state (s := { s with inputs := rest }) hx)

/-- In READY the block has no work of its own (R40). -/
theorem tick_ready {s : State} (h : s.state = .ready) : s.tick = s.quiet :=
  tick_idle (.inr (by simp [h]))

/-- Settles O21: in READY every instruction is answered, the block's own step does nothing, and of the events only the
CFG_VERSION input and an assertion of reset write anything. -/
theorem readyIsFrozenUntilReset : Obligations.ReadyIsFrozenUntilReset := by
  constructor
  · intro i s t hs h
    cases (exec_ready i hs).symm.trans h
    rfl
  · intro s t hs hr hna h
    obtain ⟨-, ⟨hin, rfl⟩ | ⟨e, rest, hin, he⟩⟩ := step_cases h
    · rw [tick_ready hs, hin, List.tail_nil, ← hin]
      rfl
    · rw [hin, List.tail_cons]
      obtain ⟨-, rfl⟩ | ⟨rfl, -⟩ | ⟨-, hr', -⟩ | ⟨-, -, rfl⟩ | ⟨_, -, rfl⟩ | ⟨_, -, -, rfl⟩ | ⟨p, -, -, hx⟩ :=
        stepInput_cases he
      · rw [tick_ready (s := { s with inputs := rest }) hs]
        rfl
      · exact absurd hin (hna rest)
      · exact nomatch hr.symm.trans hr'
      · rfl
      · rfl
      · rfl
      · rw [exec_ready _ (s := { s with inputs := rest }) hs] at hx
        cases hx
        rfl

/-! ## The build: each of its steps keeps the outcome to come (R121, R139) -/

theorem resume_of_found {s : State} {f : BuildFault} (h : s.found = some f) : s.resume = .error f := by
  simp [State.resume, h]

theorem resume_validate {s : State} (h : s.found = none) (hp : s.phase = .validate) :
    s.resume = build s.cfg s.cfgVersion := by
  simp [State.resume, h, hp]

theorem resume_first {s : State} (h : s.found = none) (hp : s.phase = .first) :
    s.resume = enumerateAndFold s.cfg s.cfgVersion := by
  simp [State.resume, h, hp]

theorem resume_fold {s : State} (h : s.found = none) (hp : s.phase = .fold) :
    s.resume = foldAndFinish s.cfg s.cfgVersion s.acc (s.cfg.versions.drop s.verIdx) := by
  simp [State.resume, h, hp]

theorem resume_finish {s : State} (h : s.found = none) (hp : s.phase = .finish) :
    s.resume = finishBuild s.cfg s.cfgVersion s.acc := by
  simp [State.resume, h, hp]

@[simp] theorem resume_buildFound (s : State) (f : BuildFault) : (s.buildFound f).resume = .error f := rfl

theorem buildValidate_state (s : State) : s.buildValidate.state = s.state := by
  obtain ⟨_, -, h⟩ | ⟨-, h⟩ := buildValidate_cases s <;> rw [h] <;> rfl

theorem buildFirst_state (s : State) : s.buildFirst.state = s.state := by
  obtain ⟨_, -, h⟩ | ⟨_, -, h⟩ := buildFirst_cases s <;> rw [h] <;> rfl

theorem buildFold_state (s : State) : s.buildFold.state = s.state := by
  obtain ⟨-, h⟩ | ⟨_, -, -, ⟨_, -, h⟩ | ⟨_, -, h⟩⟩ := buildFold_cases s <;> rw [h] <;> rfl

theorem buildValidate_resume {s : State} (h : s.found = none) (hp : s.phase = .validate) :
    s.buildValidate.resume = s.resume := by
  rw [resume_validate h hp, build]
  obtain ⟨f, hv, h'⟩ | ⟨hv, h'⟩ := buildValidate_cases s <;> rw [h', hv]
  · rfl
  · exact resume_first h rfl

theorem buildFirst_resume {s : State} (h : s.found = none) (hp : s.phase = .first) :
    s.buildFirst.resume = s.resume := by
  rw [resume_first h hp, enumerateAndFold]
  obtain ⟨f, hv, h'⟩ | ⟨a, hv, h'⟩ := buildFirst_cases s <;> rw [h', hv]
  · rfl
  · exact resume_fold h rfl

theorem buildFold_resume {s : State} (h : s.found = none) (hp : s.phase = .fold) :
    s.buildFold.resume = s.resume := by
  rw [resume_fold h hp]
  obtain ⟨hstop, h'⟩ | ⟨v, hv, hle, hturn⟩ := buildFold_cases s
  · rw [h', foldAndFinish_stop]
    · exact resume_finish h rfl
    · obtain hnone | ⟨v, hv, hgt⟩ := hstop
      · exact .inl (List.drop_eq_nil_of_le (List.getElem?_eq_none_iff.mp hnone))
      · obtain ⟨hlt, rfl⟩ := List.getElem?_eq_some_iff.mp hv
        exact .inr ⟨_, _, List.drop_eq_getElem_cons hlt, hgt⟩
  · obtain ⟨hlt, rfl⟩ := List.getElem?_eq_some_iff.mp hv
    rw [List.drop_eq_getElem_cons hlt]
    obtain ⟨f, hf, h'⟩ | ⟨a, ha, h'⟩ := hturn
    · rw [h', foldAndFinish_error hle hf]
      rfl
    · rw [h', foldAndFinish_ok hle ha]
      exact resume_fold h rfl

/-- A step of the build that is not the commit keeps the outcome to come. -/
theorem buildStep_resume {s : State} (h : s.found = none) :
    s.buildStep.resume = s.resume ∨ ∃ t, s.resume = .ok t ∧ s.buildStep = s.commit t := by
  cases hp : s.phase with
  | validate => rw [buildStep_validate h hp]; exact .inl (buildValidate_resume h hp)
  | first => rw [buildStep_first h hp]; exact .inl (buildFirst_resume h hp)
  | fold => rw [buildStep_fold h hp]; exact .inl (buildFold_resume h hp)
  | finish =>
    rw [buildStep_finish h hp, resume_finish h hp]
    obtain ⟨f, hf, h'⟩ | ⟨t, ht, h'⟩ := buildFinish_cases s
    · exact .inl (by rw [h', hf, resume_buildFound])
    · exact .inr ⟨t, ht, h'⟩

/-- `t` is `s` with another hidden state of the build (R35). -/
def SameButHidden (s t : State) : Prop :=
  ∃ p a j f, t = { s with phase := p, acc := a, verIdx := j, found := f }

theorem sameButHidden_buildFound (s : State) (f : BuildFault) : SameButHidden s (s.buildFound f) := ⟨_, _, _, _, rfl⟩

theorem sameButHidden_buildNext (s : State) (p : BuildPhase) (a : List Variant) (j : Nat) :
    SameButHidden s (s.buildNext p a j) := ⟨_, _, _, _, rfl⟩

/-- What one step of the build does to its outcome: it stays what it was while the build goes on, the fault raised is
it, and the tables committed are it. -/
theorem buildStep_outcome (s : State) :
    (SameButHidden s s.buildStep ∧ s.buildStep.resume = s.resume)
      ∨ (∃ f, s.resume = .error f ∧ s.buildStep = s.raiseBuildFault f)
      ∨ (∃ t, s.resume = .ok t ∧ s.buildStep = s.commit t) := by
  obtain ⟨f, hf, h⟩ | ⟨hf, f, h⟩ | ⟨hf, p, a, j, h⟩ | ⟨hf, hp, t, ht, h⟩ := buildStep_cases s
  · exact .inr (.inl ⟨f, resume_of_found hf, h⟩)
  · exact (buildStep_resume hf).imp (fun hres => ⟨h ▸ sameButHidden_buildFound s f, hres⟩) .inr
  · exact (buildStep_resume hf).imp (fun hres => ⟨h ▸ sameButHidden_buildNext s p a j, hres⟩) .inr
  · exact .inr (.inr ⟨t, (resume_finish hf hp).trans ht, h⟩)

/-! ## The invariant -/

theorem slotsWf_iff (s : State) : s.slotsWf = true ↔ s.table.length = tableLen ∧ s.price.length = tableLen := by
  simp [State.slotsWf]

namespace State.Inv

variable {s t : State}

/-- The invariant says nothing about the ports. -/
theorem setPorts (h : s.Inv) (v : Version) (ins : List Input) (as : List Answer) :
    State.Inv { s with cfgInput := v, inputs := ins, answers := as } :=
  ⟨h.cfgOk, h.slots, h.heldKind, h.heldReset, h.heldEnd, h.faultIff, h.countZero, h.building, h.ready, h.failed⟩

theorem quiet (h : s.Inv) : s.quiet.Inv := h.setPorts s.cfgInput s.inputs []

theorem answer (h : s.Inv) (i : Instr) (c : RespCode) (r : Result) : (s.answer i c r).Inv :=
  h.setPorts s.cfgInput s.inputs [{ request := i, resp := c, result := r }]

theorem hold (h : s.Inv) (hr : s.resetIn = false) (hb : s.state = .building) {i : Instr}
    (hi : heldWhileBuilding i = true) : (s.hold i).Inv where
  cfgOk := h.cfgOk
  slots := h.slots
  heldKind := by
    intro j hj
    obtain hj | hj := List.mem_append.mp hj
    · exact h.heldKind j hj
    · rwa [List.mem_singleton.mp hj]
  heldReset := fun hr' => nomatch hr.symm.trans hr'
  heldEnd := fun hne => absurd hb hne
  faultIff := h.faultIff
  countZero := h.countZero
  building := h.building
  ready := h.ready
  failed := h.failed

/-- Out of reset an instruction keeps the invariant. -/
theorem exec (h : s.Inv) (hr : s.resetIn = false) {i : Instr} (hx : Machine.exec i s = .next t) : t.Inv := by
  obtain ⟨hb, hi, h'⟩ | ⟨c, r, h'⟩ := exec_cases i s <;> cases h'.symm.trans hx
  · exact h.hold hr hb hi
  · exact h.answer i c r

/-- Under reset the registers are meaningless (R240): the invariant asks for the slots only. -/
theorem assertReset (h : s.Inv) : s.assertReset.Inv where
  cfgOk := h.cfgOk
  slots := h.slots
  heldKind := fun _ hi => nomatch hi
  heldReset := fun _ => rfl
  heldEnd := fun _ => rfl
  faultIff := fun hr => nomatch hr
  countZero := fun hr => nomatch hr
  building := fun hr => nomatch hr
  ready := fun hr => nomatch hr
  failed := fun hr => nomatch hr

/-- A release starts the build afresh, whatever the registers held under reset (R241). -/
theorem of_releaseReset (hw : s.cfg.wf = true) (hs : s.slotsWf = true) : s.releaseReset.Inv where
  cfgOk := hw
  slots := hs
  heldKind := fun _ hi => nomatch hi
  heldReset := fun _ => rfl
  heldEnd := fun _ => rfl
  faultIff := fun _ => by simp
  countZero := fun _ _ => rfl
  building := fun _ _ => resume_validate rfl rfl
  ready := fun _ h => nomatch h
  failed := fun _ h => nomatch h

/-- A step of the build that leaves its outcome alone keeps the invariant. -/
theorem of_sameButHidden (h : s.Inv) (hst : SameButHidden s t) (hres : t.resume = s.resume) : t.Inv := by
  obtain ⟨p, a, j, f, rfl⟩ := hst
  exact ⟨h.cfgOk, h.slots, h.heldKind, h.heldReset, h.heldEnd, h.faultIff, h.countZero,
    fun hr hb => hres.trans (h.building hr hb), h.ready, h.failed⟩

/-- Raising the fault that BUILD ends with (R211). -/
theorem raiseBuildFault (h : s.Inv) {f : BuildFault} (hf : build s.cfg s.cfgVersion = .error f) :
    (s.raiseBuildFault f).releaseHeld.Inv where
  cfgOk := h.cfgOk
  slots := h.slots
  heldKind := fun _ hi => nomatch hi
  heldReset := fun _ => rfl
  heldEnd := fun _ => rfl
  faultIff := fun _ => by simp
  countZero := fun _ _ => rfl
  building := fun _ h => nomatch h
  ready := fun _ h => nomatch h
  failed := fun _ _ => ⟨f, rfl, hf⟩

/-- Committing the tables that BUILD ends with (R133 to R136). -/
theorem commit (h : s.Inv) {T : Tables} (hT : build s.cfg s.cfgVersion = .ok T) :
    (s.commit T).releaseHeld.Inv where
  cfgOk := h.cfgOk
  slots := (slotsWf_iff _).mpr ⟨build_table_length hT, build_price_length hT⟩
  heldKind := fun _ hi => nomatch hi
  heldReset := fun _ => rfl
  heldEnd := fun _ => rfl
  faultIff := fun _ => by simp
  countZero := fun _ hne => absurd rfl hne
  building := fun _ h => nomatch h
  ready := fun _ _ => hT
  failed := fun _ h => nomatch h

/-- The block's own step keeps the invariant: the build under way is on the way to BUILD's outcome and ends with it. -/
theorem tick (h : s.Inv) : s.tick.Inv := by
  obtain ⟨-, ht⟩ | ⟨hr, hb, hb', ht⟩ | ⟨hr, hb, hb', ht⟩ := tick_cases s
  · exact ht ▸ h.quiet
  · obtain ⟨hgo, hres⟩ | ⟨f, -, hs⟩ | ⟨T, -, hs⟩ := buildStep_outcome s
    · exact ht ▸ (h.of_sameButHidden hgo hres).quiet
    · exact nomatch (congrArg State.state hs).symm.trans hb'
    · exact nomatch (congrArg State.state hs).symm.trans hb'
  · rw [ht]
    obtain ⟨⟨_, _, _, _, hgo⟩, -⟩ | ⟨f, hf, hs⟩ | ⟨T, hT, hs⟩ := buildStep_outcome s
    · exact absurd ((congrArg State.state hgo).trans hb) hb'
    · rw [hs]
      exact h.raiseBuildFault ((h.building hr hb).symm.trans hf)
    · rw [hs]
      exact h.commit ((h.building hr hb).symm.trans hT)

theorem stepInput (h : s.Inv) {e : Input} (he : Machine.stepInput e s = .next t) : t.Inv := by
  obtain ⟨-, rfl⟩ | ⟨-, rfl⟩ | ⟨-, -, rfl⟩ | ⟨-, -, rfl⟩ | ⟨v, -, rfl⟩ | ⟨_, -, -, rfl⟩ | ⟨_, -, hr, hx⟩ :=
    stepInput_cases he
  · exact h.tick
  · exact h.assertReset
  · exact of_releaseReset h.cfgOk h.slots
  · exact h.quiet
  · exact h.setPorts v s.inputs []
  · exact h.quiet
  · exact h.exec hr hx

end State.Inv

/-- Settles O31, from the invariant of the block's own step and of each event. -/
theorem stepKeepsInvariant : Obligations.StepKeepsInvariant := by
  intro s t h hst
  obtain ⟨-, ⟨-, rfl⟩ | ⟨e, rest, -, he⟩⟩ := step_cases hst
  · exact h.tick
  · exact (h.setPorts s.cfgInput rest s.answers).stepInput he

/-- Settles O32: a release of reset in State.reset gives State.reset again. -/
theorem resetStateHasInvariant : Obligations.ResetStateHasInvariant := by
  have hwf : State.reset.cfg.wf = true := by decide
  have hslots : State.reset.slotsWf = true := (slotsWf_iff _).mpr ⟨List.length_replicate, List.length_replicate⟩
  have hrelease : State.reset.releaseReset = State.reset := rfl
  rw [Obligations.ResetStateHasInvariant, ← hrelease]
  exact State.Inv.of_releaseReset hwf hslots

/-! ## The unreadable tables reach nothing (R39, U7): writing others into them commutes with every step until the commit
overwrites them -/

/-- `s` with TABLE, PRICE, NOP_WORD and PANIC_WORD of `u`. -/
def State.withTablesOf (s u : State) : State :=
  { s with table := u.table, price := u.price, nopWord := u.nopWord, panicWord := u.panicWord }

section withTablesOf

variable (s u : State)

@[simp] theorem withTablesOf_cfg : (s.withTablesOf u).cfg = s.cfg := rfl
@[simp] theorem withTablesOf_resetIn : (s.withTablesOf u).resetIn = s.resetIn := rfl
@[simp] theorem withTablesOf_cfgVersion : (s.withTablesOf u).cfgVersion = s.cfgVersion := rfl
@[simp] theorem withTablesOf_state : (s.withTablesOf u).state = s.state := rfl
@[simp] theorem withTablesOf_acc : (s.withTablesOf u).acc = s.acc := rfl
@[simp] theorem withTablesOf_verIdx : (s.withTablesOf u).verIdx = s.verIdx := rfl
@[simp] theorem withTablesOf_held : (s.withTablesOf u).held = s.held := rfl

theorem sameButTables_withTablesOf : SameButTables s (s.withTablesOf u) := rfl

theorem sameButTables_iff {s t : State} : SameButTables s t ↔ s.withTablesOf t = t := by
  cases s
  cases t
  simp [SameButTables, State.withTablesOf]

/-- The instructions answered at once read no table (R193, R194). -/
theorem ownResponse_withTablesOf {i : Instr} (hi : heldWhileBuilding i = false) :
    ownResponse (s.withTablesOf u) i = ownResponse s i := by
  cases i with
  | status | reservedCmd9 | reservedCmdAB | reservedCmdCF => rfl
  | _ => cases hi

/-- Out of READY an instruction neither reads nor writes the tables. -/
theorem exec_withTablesOf {s : State} (hs : s.state ≠ .ready) {i : Instr} {t : State} (h : exec i s = .next t) :
    exec i (s.withTablesOf u) = .next (t.withTablesOf u) := by
  cases hi : heldWhileBuilding i with
  | false =>
    rw [exec_of_atOnce hi] at h ⊢
    cases h
    rw [ownResponse_withTablesOf s u hi]
    rfl
  | true =>
    cases hb : s.state with
    | building => cases (exec_building hi hb).symm.trans h; exact exec_building hi hb
    | ready => exact absurd hb hs
    | failed => cases (exec_failed hi hb).symm.trans h; exact exec_failed hi hb

theorem answerHeld_withTablesOf {s : State} (hs : s.state ≠ .ready) (l : List Instr) :
    answerHeld (s.withTablesOf u) l = answerHeld s l := by
  induction l with
  | nil => rfl
  | cons i rest ih =>
    obtain ⟨t, ht⟩ := exec_total i s
    simp only [answerHeld, ht, exec_withTablesOf u hs ht, ih]
    rfl

theorem releaseHeld_withTablesOf {s : State} (hs : s.state ≠ .ready) :
    (s.withTablesOf u).releaseHeld = s.releaseHeld.withTablesOf u := by
  simp only [State.releaseHeld, withTablesOf_held, answerHeld_withTablesOf u hs]
  rfl

theorem buildValidate_withTablesOf : (s.withTablesOf u).buildValidate = s.buildValidate.withTablesOf u := by
  simp only [State.buildValidate, withTablesOf_cfg, withTablesOf_cfgVersion]
  split <;> rfl

theorem buildFirst_withTablesOf : (s.withTablesOf u).buildFirst = s.buildFirst.withTablesOf u := by
  simp only [State.buildFirst, withTablesOf_cfg]
  split <;> rfl

theorem buildFold_withTablesOf : (s.withTablesOf u).buildFold = s.buildFold.withTablesOf u := by
  simp only [State.buildFold, withTablesOf_cfg, withTablesOf_cfgVersion, withTablesOf_acc, withTablesOf_verIdx]
  split
  · rfl
  · next v _ =>
    by_cases hle : v ≤ s.cfgVersion
    · simp only [hle, reduceIte]
      split <;> rfl
    · simp only [hle, reduceIte]
      rfl

/-- The commit overwrites all four; a fault found at the end leaves them alone. -/
theorem buildFinish_withTablesOf :
    ((s.withTablesOf u).buildFinish = s.buildFinish.withTablesOf u ∧ s.buildFinish.state = s.state)
      ∨ (s.withTablesOf u).buildFinish = s.buildFinish := by
  simp only [State.buildFinish, withTablesOf_cfg, withTablesOf_cfgVersion, withTablesOf_acc]
  split
  · exact .inl ⟨rfl, rfl⟩
  · exact .inr rfl

/-- One step of the build carries other tables along and leaves them unreadable, or commits and overwrites them. -/
theorem buildStep_withTablesOf {s : State} (hs : s.state ≠ .ready) :
    ((s.withTablesOf u).buildStep = s.buildStep.withTablesOf u ∧ s.buildStep.state ≠ .ready)
      ∨ (s.withTablesOf u).buildStep = s.buildStep := by
  cases hf : s.found with
  | some f =>
    rw [buildStep_found hf, buildStep_found (s := s.withTablesOf u) hf]
    exact .inl ⟨rfl, BlockState.noConfusion⟩
  | none =>
    cases hp : s.phase with
    | validate =>
      rw [buildStep_validate hf hp, buildStep_validate (s := s.withTablesOf u) hf hp]
      exact .inl ⟨buildValidate_withTablesOf s u, buildValidate_state s ▸ hs⟩
    | first =>
      rw [buildStep_first hf hp, buildStep_first (s := s.withTablesOf u) hf hp]
      exact .inl ⟨buildFirst_withTablesOf s u, buildFirst_state s ▸ hs⟩
    | fold =>
      rw [buildStep_fold hf hp, buildStep_fold (s := s.withTablesOf u) hf hp]
      exact .inl ⟨buildFold_withTablesOf s u, buildFold_state s ▸ hs⟩
    | finish =>
      rw [buildStep_finish hf hp, buildStep_finish (s := s.withTablesOf u) hf hp]
      exact (buildFinish_withTablesOf s u).imp_left fun ⟨h, hst⟩ => ⟨h, hst ▸ hs⟩

/-- After a step from `s` to `s'`, the step from `s` with the tables of `u` has led to `t'`: to `s'` with them, in which
they are unreadable still, or to `s'` itself. -/
def AgreesAfter (s u s' t' : State) : Prop :=
  (t' = s'.withTablesOf u ∧ (s'.state = .ready → s.resetIn = true)) ∨ t' = s'

/-- The block's own step does not read them. -/
theorem tick_withTablesOf {s : State} (hs : s.state = .ready → s.resetIn = true) :
    AgreesAfter s u s.tick (s.withTablesOf u).tick := by
  obtain ⟨hidle, ht⟩ | ⟨hr, hb, hb', ht⟩ | ⟨hr, hb, hb', ht⟩ := tick_cases s
  · rw [ht, tick_idle (s := s.withTablesOf u) hidle]
    exact .inl ⟨rfl, hs⟩
  · rw [ht]
    obtain ⟨h, -⟩ | h := buildStep_withTablesOf u (s := s) (by simp [hb])
    · rw [tick_building (s := s.withTablesOf u) hr hb (by rwa [h]), h]
      exact .inl ⟨rfl, fun hready => nomatch hb'.symm.trans hready⟩
    · rw [tick_building (s := s.withTablesOf u) hr hb (by rwa [h]), h]
      exact .inr rfl
  · rw [ht]
    obtain ⟨h, hne⟩ | h := buildStep_withTablesOf u (s := s) (by simp [hb])
    · rw [tick_end (s := s.withTablesOf u) hr hb (by rwa [h]), h, releaseHeld_withTablesOf u hne]
      exact .inl ⟨rfl, fun hready => absurd hready hne⟩
    · rw [tick_end (s := s.withTablesOf u) hr hb (by rwa [h]), h]
      exact .inr rfl

/-- While the tables are unreadable a request is read without them. -/
theorem fetch_withTablesOf {s : State} (hs : s.state ≠ .ready) (p : PortWord) :
    (s.withTablesOf u).fetch p = s.fetch p := by
  cases p with
  | req b => rfl
  | cw w => simp [State.fetch, decode, decodeCw, State.cwContext, hs]

theorem stepInput_withTablesOf {s s' : State} (hs : s.state = .ready → s.resetIn = true) {e : Input}
    (h : stepInput e s = .next s') :
    ∃ t', stepInput e (s.withTablesOf u) = .next t' ∧ AgreesAfter s u s' t' := by
  obtain ⟨rfl, rfl⟩ | ⟨rfl, rfl⟩ | ⟨rfl, hr, rfl⟩ | ⟨rfl, hr, rfl⟩ | ⟨v, rfl, rfl⟩ | ⟨p, rfl, hr, rfl⟩
    | ⟨p, rfl, hr, hx⟩ := stepInput_cases h
  · exact ⟨_, rfl, tick_withTablesOf u hs⟩
  · exact ⟨_, rfl, .inl ⟨rfl, hs⟩⟩
  · exact ⟨_, stepInput_releaseReset (s := s.withTablesOf u) hr, .inl ⟨rfl, BlockState.noConfusion⟩⟩
  · exact ⟨_, stepInput_releaseReset_idle (s := s.withTablesOf u) hr, .inl ⟨rfl, hs⟩⟩
  · exact ⟨_, rfl, .inl ⟨rfl, hs⟩⟩
  · exact ⟨_, stepInput_request_dropped (s := s.withTablesOf u) hr p, .inl ⟨rfl, hs⟩⟩
  · have hne : s.state ≠ .ready := fun hready => nomatch hr.symm.trans (hs hready)
    refine ⟨s'.withTablesOf u, ?_, .inl ⟨rfl, fun hready => absurd (exec_state hx ▸ hready) hne⟩⟩
    rw [stepInput_request (s := s.withTablesOf u) hr, fetch_withTablesOf u hne]
    exact exec_withTablesOf u hne hx

theorem step_withTablesOf {s s' : State} (hs : s.state = .ready → s.resetIn = true) (h : step s = .next s') :
    ∃ t', step (s.withTablesOf u) = .next t' ∧ AgreesAfter s u s' t' := by
  obtain ⟨hw, ⟨hin, rfl⟩ | ⟨e, rest, hin, he⟩⟩ := step_cases h
  · exact ⟨_, step_idle hw hin, tick_withTablesOf u hs⟩
  · rw [step_event (s := s.withTablesOf u) hw hin]
    exact stepInput_withTablesOf u (s := { s with inputs := rest }) hs he

end withTablesOf

/-- Settles O25: the second state is the first with other tables, and a step carries these along or overwrites them. -/
theorem unreadableTablesReachNothing : Obligations.UnreadableTablesReachNothing := by
  intro s t s' hst hs h
  have hunreadable : s.state = .ready → s.resetIn = true := fun hready => hs.resolve_left (not_not_intro hready)
  obtain ⟨t', ht, hagree⟩ := step_withTablesOf t hunreadable h
  rw [sameButTables_iff.mp hst] at ht
  refine ⟨t', ht, ?_⟩
  obtain ⟨rfl, hreset⟩ | rfl := hagree
  · exact ⟨sameButTables_withTablesOf s' t, fun hready hr => nomatch hr.symm.trans (hreset hready)⟩
  · exact ⟨rfl, fun _ _ => rfl⟩

/-! ## The tables a build writes (R27, R28, R133, R134) -/

/-- Every slot's price is that of its variant (R134). -/
theorem readPriceSlot_fillPrices (c : Caps) {t : List Variant} (ht : t.length = tableLen) (i : Slot) :
    readPriceSlot (fillPrices c t) i = priceOf c (readTable t i) := by
  have hi : i.toNat < t.length := ht ▸ i.isLt
  simp [readPriceSlot, fillPrices, readTable, List.getD_eq_getElem?_getD, hi]

/-- Settles O44, from the accumulator that COMMIT pads. -/
theorem builtTablesHaveTheSpecifiedShape : Obligations.BuiltTablesHaveTheSpecifiedShape := by
  intro cfg v T h
  obtain ⟨acc, hacc, hhead, hlen, htable, hcount⟩ := build_ok_accumulator h
  have htake : T.table.take T.count.toNat = acc := by rw [htable, hcount, padTable_take]
  have hread (i : Slot) : readTable T.table i = acc.getD i.toNat invalidV := by rw [htable, readTable_padTable]
  refine ⟨build_table_length h, build_price_length h, ?_, hcount ▸ hlen, ?_, ?_, ?_, ?_, ?_⟩
  · rw [hcount]
    exact List.length_pos_iff.mpr fun hnil => nomatch hnil ▸ hhead
  · rw [hread]
    simpa [List.getD_eq_getElem?_getD, List.head?_eq_getElem?] using congrArg (·.getD invalidV) hhead
  · intro i hi
    rw [hread, List.getD_eq_default _ _ (hcount ▸ hi)]
  · intro i
    rw [build_price_eq h, readPriceSlot_fillPrices _ (build_table_length h)]
  · rw [htake, hacc]
  · intro hwf hv
    obtain ⟨-, hinc, -⟩ := (Configuration.wf_iff cfg).mp hwf
    rw [htake, accumulatorAt_earliest hinc hv hacc]

end Sys2Proof.Machine
end

/-! PROOFS. The storage of the block (spec/20_memory.md): along every run a table command is answered from nothing but the
whole tables of a successful build. -/

section

namespace Sys2Proof.Machine

open Sys2Proof

/-! ## The invariant holds along every run from a reset release (R241) -/

/-- Right after a release the build is at its start, so its outcome to come is BUILD's. -/
theorem AtRelease.inv {s : State} (h : AtRelease s) : s.Inv where
  cfgOk := h.cfgOk
  slots := h.slots
  heldKind := by simp [h.held]
  heldReset := fun _ => h.held
  heldEnd := fun _ => h.held
  faultIff := fun _ => by simp [h.fault, h.state]
  countZero := fun _ _ => h.count
  building := fun _ _ =>
    have ⟨_, _, hfound, hphase⟩ := h.hidden
    resume_validate hfound hphase
  ready := fun _ hs => nomatch h.state.symm.trans hs
  failed := fun _ hs => nomatch h.state.symm.trans hs

theorem Reachable.inv {s : State} (h : Reachable s) : s.Inv := by
  induction h with
  | release s hs => exact hs.inv
  | next s t _ hst ih => exact stepKeepsInvariant s t ih hst

/-! ## A table command is answered with more than FAILED in READY alone, out of reset (R213, R219, R244) -/

/-- The answer is to a command that waits for the tables (R244), and it is not the refusal of a failed build (R213). -/
def Answer.FromTables (a : Answer) : Prop := heldWhileBuilding a.request = true ∧ a.resp ≠ .failed

/-- While BUILDING such a command is held, and in FAILED it is answered FAILED. -/
theorem exec_fromTables {i : Instr} {s t : State} (h : exec i s = .next t) {a : Answer} (ha : a ∈ t.answers)
    (hft : a.FromTables) : s.state = .ready := by
  obtain ⟨hkind, hresp⟩ := hft
  cases hi : heldWhileBuilding i with
  | false =>
    cases (exec_of_atOnce hi s).symm.trans h
    cases List.mem_singleton.mp ha
    exact nomatch hi.symm.trans hkind
  | true =>
    cases hs : s.state with
    | building =>
      cases (exec_building hi hs).symm.trans h
      exact absurd ha List.not_mem_nil
    | ready => rfl
    | failed =>
      cases (exec_failed hi hs).symm.trans h
      cases List.mem_singleton.mp ha
      exact absurd rfl hresp

/-- The responses to the held commands are those of the commands one by one. -/
theorem exists_exec_of_mem_answerHeld {s : State} {l : List Instr} {a : Answer} (ha : a ∈ answerHeld s l) :
    ∃ i ∈ l, ∃ t, exec i s = .next t ∧ a ∈ t.answers := by
  induction l with
  | nil => exact absurd ha List.not_mem_nil
  | cons i rest ih =>
    obtain ⟨t, ht⟩ := exec_total i s
    rw [answerHeld, ht] at ha
    obtain ha | ha := List.mem_append.mp ha
    · exact ⟨i, List.mem_cons_self, t, ht, ha⟩
    · obtain ⟨j, hj, h⟩ := ih ha
      exact ⟨j, List.mem_cons_of_mem i hj, h⟩

/-- The build does not touch the reset input. -/
theorem buildStep_resetIn (s : State) : s.buildStep.resetIn = s.resetIn := by
  obtain ⟨f, -, h⟩ | ⟨-, f, h⟩ | ⟨-, p, a, j, h⟩ | ⟨-, -, T, -, h⟩ := buildStep_cases s <;> rw [h] <;> rfl

/-- The block's own step answers only the commands it releases at the end of the build, in the new STATE. -/
theorem tick_fromTables {s : State} {a : Answer} (ha : a ∈ s.tick.answers) (hft : a.FromTables) :
    s.tick.resetIn = false ∧ s.tick.state = .ready := by
  obtain ⟨-, h⟩ | ⟨-, -, -, h⟩ | ⟨hr, -, -, h⟩ := tick_cases s <;> rw [h] at ha ⊢
  · exact absurd ha List.not_mem_nil
  · exact absurd ha List.not_mem_nil
  · obtain ⟨i, -, t, ht, hat⟩ := exists_exec_of_mem_answerHeld ha
    have hready : s.buildStep.state = .ready := exec_fromTables ht hat hft
    exact ⟨(buildStep_resetIn s).trans hr, hready⟩

theorem exec_resetIn {i : Instr} {s t : State} (h : exec i s = .next t) : t.resetIn = s.resetIn := by
  obtain ⟨-, -, h'⟩ | ⟨_, _, h'⟩ := exec_cases i s <;> cases h'.symm.trans h <;> rfl

/-- Of the events of the outside world only a request out of reset is answered at once. -/
theorem stepInput_fromTables {e : Input} {s t : State} (he : stepInput e s = .next t) {a : Answer}
    (ha : a ∈ t.answers) (hft : a.FromTables) : t.resetIn = false ∧ t.state = .ready := by
  obtain ⟨-, rfl⟩ | ⟨-, rfl⟩ | ⟨-, -, rfl⟩ | ⟨-, -, rfl⟩ | ⟨_, -, rfl⟩ | ⟨_, -, -, rfl⟩ | ⟨_, -, hr, hx⟩ :=
    stepInput_cases he
  · exact tick_fromTables ha hft
  · exact absurd ha List.not_mem_nil
  · exact absurd ha List.not_mem_nil
  · exact absurd ha List.not_mem_nil
  · exact absurd ha List.not_mem_nil
  · exact absurd ha List.not_mem_nil
  · exact ⟨(exec_resetIn hx).trans hr, (exec_state hx).trans (exec_fromTables hx ha hft)⟩

theorem step_fromTables {s t : State} (h : step s = .next t) {a : Answer} (ha : a ∈ t.answers)
    (hft : a.FromTables) : t.resetIn = false ∧ t.state = .ready := by
  obtain ⟨-, ⟨-, rfl⟩ | ⟨e, rest, -, he⟩⟩ := step_cases h
  · exact tick_fromTables ha hft
  · exact stepInput_fromTables he ha hft

/-- Settles O24: the step that gives such an answer ends in READY out of reset, where the invariant of the run says that
the tables are BUILD's. -/
theorem answersComeFromAWholeBuild : Obligations.AnswersComeFromAWholeBuild := by
  intro s t hs hst a ha hkind hresp
  obtain ⟨hr, hready⟩ := step_fromTables hst ha ⟨hkind, hresp⟩
  have ht : t.Inv := (hs.next s t hst).inv
  exact ⟨hready, ht.ready hr hready⟩

end Sys2Proof.Machine

end

section
/-! PROOFS. The layouts of a codeword (spec/30_encoding.md R70), a request (R81) and an ENTRY (R79): each field is read
back from its place, and the decoder and the encoder are inverse to each other. -/

namespace Sys2Proof

open Laws (reqBits_code codewordBits_gap)
open Machine (commandCode)

/-! ## The codeword layout (R70, R71) -/

/-- Cutting reads every field from where `codewordBits` has put it, whatever the gap bits are. -/
@[simp] theorem cutCodeword_codewordBits (c : Codeword) (gap : BitVec 2) : cutCodeword (codewordBits c gap) = c := by
  unfold cutCodeword codewordBits
  congr <;> (repeat rw [BitVec.extractLsb'_append_eq_of_le (by decide)])
  case e_imm1 => exact BitVec.extractLsb'_eq_self
  all_goals exact BitVec.extractLsb'_append_eq_right

@[simp] theorem cutCodeword_codeword (c : Codeword) : cutCodeword (codeword c) = c := cutCodeword_codewordBits c 0

/-- The fields and the gap bits tile the word. -/
theorem codewordBits_cutCodeword (w : Word) : codewordBits (cutCodeword w) (w.extractLsb' 11 2) = w := by
  simp only [codewordBits, cutCodeword, BitVec.extractLsb'_append_extractLsb'_eq_extractLsb']
  exact BitVec.extractLsb'_eq_self

theorem cutCodeword_index (w : Word) : (cutCodeword w).index = w.extractLsb' 0 11 := rfl

theorem canonical_iff (w : Word) : canonical w = true ↔ w.extractLsb' 11 2 = 0 := by
  simp [canonical]

@[simp] theorem canonical_codeword (c : Codeword) : canonical (codeword c) = true :=
  (canonical_iff _).mpr (codewordBits_gap c 0)

theorem not_canonical_codewordBits (c : Codeword) {gap : BitVec 2} (h : gap ≠ 0) :
    canonical (codewordBits c gap) = false := by
  rw [Bool.eq_false_iff, ne_eq, canonical_iff, codewordBits_gap]
  exact h

theorem codeword_cutCodeword {w : Word} (h : canonical w = true) : codeword (cutCodeword w) = w := by
  rw [codeword, ← (canonical_iff w).mp h, codewordBits_cutCodeword]

/-- The two gap bits as the field [12:11]. -/
theorem getLsbD_gap (w : Word) :
    w.getLsbD 11 = (w.extractLsb' 11 2).getLsbD 0 ∧ w.getLsbD 12 = (w.extractLsb' 11 2).getLsbD 1 := by
  simp

theorem gap_of_bit11 {w : Word} (h : w.getLsbD 11 = true) : w.extractLsb' 11 2 = w.extractLsb' 12 1 ++ 1#1 := by
  have h11 : w.extractLsb' 11 1 = 1#1 := by rwa [BitVec.getLsbD_eq_extractLsb', beq_iff_eq] at h
  rw [← h11]
  exact (BitVec.extractLsb'_append_extractLsb'_eq_extractLsb' (by decide : 12 = 11 + 1)).symm

theorem gap_of_bit12 {w : Word} (h11 : w.getLsbD 11 = false) (h12 : w.getLsbD 12 = true) :
    w.extractLsb' 11 2 = 2 := by
  obtain ⟨hlow, hhigh⟩ := getLsbD_gap w
  have bits : ∀ g : BitVec 2, g.getLsbD 0 = false → g.getLsbD 1 = true → g = 2 := by decide
  exact bits _ (hlow ▸ h11) (hhigh ▸ h12)

theorem canonical_iff_bits (w : Word) : canonical w = true ↔ w.getLsbD 11 = false ∧ w.getLsbD 12 = false := by
  obtain ⟨hlow, hhigh⟩ := getLsbD_gap w
  have bits : ∀ g : BitVec 2, g = 0 ↔ g.getLsbD 0 = false ∧ g.getLsbD 1 = false := by decide
  rw [canonical_iff, hlow, hhigh]
  exact bits _

/-! ## The row a codeword is read as (R83, R85 (a), R175) -/

section decodeCw

variable {ctx : CwContext} {w : Word}

theorem decodeCw_gap11 (h : w.getLsbD 11 = true) :
    decodeCw ctx w = .noncanonicalGap11 (cutCodeword w) (w.extractLsb' 12 1) :=
  if_pos h

theorem decodeCw_gap12 (h11 : w.getLsbD 11 = false) (h12 : w.getLsbD 12 = true) :
    decodeCw ctx w = .noncanonicalGap12 (cutCodeword w) := by
  rw [decodeCw, h11, if_neg Bool.false_ne_true, if_pos h12]

/-- In a built context a canonical word is a derived constant, or else of the family of the slot its index selects. -/
theorem decodeCw_canonical (hr : ctx.ready = true) (hc : canonical w = true) :
    decodeCw ctx w = if w = ctx.nopWord then .nopConst else if w = ctx.panicWord then .panicConst
      else familyInstr (readTable ctx.table (cutCodeword w).index).fam (cutCodeword w) := by
  obtain ⟨h11, h12⟩ := (canonical_iff_bits w).mp hc
  rw [decodeCw, h11, h12, hr]
  rfl

theorem decodeCw_family (hr : ctx.ready = true) (hc : canonical w = true) (hnop : w ≠ ctx.nopWord)
    (hpanic : w ≠ ctx.panicWord) :
    decodeCw ctx w = familyInstr (readTable ctx.table (cutCodeword w).index).fam (cutCodeword w) := by
  rw [decodeCw_canonical hr hc, if_neg hnop, if_neg hpanic]

end decodeCw

theorem spellsFamily_iff (ctx : CwContext) (f : Family) (c : Codeword) :
    spellsFamily ctx f c = true ↔ ctx.ready = true ∧ (readTable ctx.table c.index).fam = f
      ∧ codeword c ≠ ctx.nopWord ∧ codeword c ≠ ctx.panicWord := by
  simp [spellsFamily, and_assoc]

@[simp] theorem wellFormed_familyInstr (ctx : CwContext) (f : Family) (c : Codeword) :
    wellFormed ctx (familyInstr f c) = spellsFamily ctx f c := by
  cases f <;> rfl

@[simp] theorem encode_familyInstr (ctx : CwContext) (f : Family) (c : Codeword) :
    encode ctx (familyInstr f c) = .cw (codeword c) := by
  cases f <;> rfl

theorem decodeCw_codeword {ctx : CwContext} {f : Family} {c : Codeword} (h : spellsFamily ctx f c = true) :
    decodeCw ctx (codeword c) = familyInstr f c := by
  obtain ⟨hr, rfl, hnop, hpanic⟩ := (spellsFamily_iff ctx f c).mp h
  rw [decodeCw_family hr (canonical_codeword c) hnop hpanic, cutCodeword_codeword]

/-- A word with gap bit 11 set is read as its own row. -/
theorem decodeCw_codewordBits_gap11 (ctx : CwContext) (c : Codeword) (gap12 : BitVec 1) :
    decodeCw ctx (codewordBits c (gap12 ++ 1#1)) = .noncanonicalGap11 c gap12 := by
  have hgap := codewordBits_gap c (gap12 ++ 1#1)
  have h11 : (codewordBits c (gap12 ++ 1#1)).getLsbD 11 = true := by
    have bit : ∀ g : BitVec 1, (g ++ 1#1).getLsbD 0 = true := by decide
    rw [(getLsbD_gap _).1, hgap, bit]
  have h12 : (codewordBits c (gap12 ++ 1#1)).extractLsb' 12 1 = gap12 := by
    refine (BitVec.append_left_inj 1#1).mp ?_
    rw [← gap_of_bit11 h11, hgap]
  rw [decodeCw_gap11 h11, cutCodeword_codewordBits, h12]

theorem decodeCw_codewordBits_gap12 (ctx : CwContext) (c : Codeword) :
    decodeCw ctx (codewordBits c 2) = .noncanonicalGap12 c := by
  have hgap := codewordBits_gap c 2
  have h11 : (codewordBits c 2).getLsbD 11 = false := by rw [(getLsbD_gap _).1, hgap]; rfl
  have h12 : (codewordBits c 2).getLsbD 12 = true := by rw [(getLsbD_gap _).2, hgap]; rfl
  rw [decodeCw_gap12 h11 h12, cutCodeword_codewordBits]

/-! ## The request layout (R81; log entry 6) -/

/-- The operand wires of a request stand above its command code. -/
@[simp] theorem reqBits_operands (cmd : BitVec 4) (operands : BitVec 83) {i n : Nat} (h : 4 ≤ i) :
    (reqBits cmd operands).extractLsb' i n = operands.extractLsb' (i - 4) n :=
  BitVec.extractLsb'_append_eq_of_le h

/-- An operand is read back from the low wires it is put on. -/
@[simp] theorem extractLsb'_setWidth_self {n m : Nat} (h : n ≤ m) (x : BitVec n) :
    (x.setWidth m).extractLsb' 0 n = x := by
  rw [BitVec.extractLsb'_setWidth_of_le (by omega), BitVec.extractLsb'_eq_self]

/-- The operands of ENCODE are read back from their wires. -/
theorem encodeOperands_fields (key : Entry) (cond : Cond) (s0 s1 d0 d1 : RegIdx) (i0 i1 : Imm) :
    let ops := encodeOperands key cond s0 s1 d0 d1 i0 i1
    ops.extractLsb' 0 32 = key ∧ ops.extractLsb' 32 3 = cond ∧ ops.extractLsb' 35 4 = s0 ∧ ops.extractLsb' 39 4 = s1
      ∧ ops.extractLsb' 43 4 = d0 ∧ ops.extractLsb' 47 4 = d1 ∧ ops.extractLsb' 51 16 = i0
      ∧ ops.extractLsb' 67 16 = i1 := by
  unfold encodeOperands
  refine ⟨?_, ?_, ?_, ?_, ?_, ?_, ?_, ?_⟩ <;> (repeat rw [BitVec.extractLsb'_append_eq_of_le (by decide)])
  case refine_8 => exact BitVec.extractLsb'_eq_self
  all_goals exact BitVec.extractLsb'_append_eq_right

/-- The operands of SUBVAR are read back from their wires. -/
theorem subvarOperands_fields (fam : BitVec 4) (sidx : SubIdx) (ver : Version) :
    let ops := (ver ++ sidx ++ fam).setWidth 83
    ops.extractLsb' 0 4 = fam ∧ ops.extractLsb' 4 8 = sidx ∧ ops.extractLsb' 12 8 = ver := by
  refine ⟨?_, ?_, ?_⟩ <;> rw [BitVec.extractLsb'_setWidth_of_le (by decide)]
    <;> (repeat rw [BitVec.extractLsb'_append_eq_of_le (by decide)])
  case refine_3 => exact BitVec.extractLsb'_eq_self
  all_goals exact BitVec.extractLsb'_append_eq_right

/-- The sixteen command codes are those of sixteen rows. -/
theorem commandCode_decodeReq (b : BitVec 87) : commandCode (decodeReq b) = some (b.extractLsb' 0 4) := by
  unfold decodeReq
  generalize b.extractLsb' 0 4 = code
  fin_cases code <;> rfl

theorem encode_eq_reqBits (ctx : CwContext) {i : Instr} {c : BitVec 4} (h : commandCode i = some c) :
    ∃ operands, encode ctx i = .req (reqBits c operands) := by
  cases i <;> cases h <;> exact ⟨_, rfl⟩

/-- A command is read from its own request, where the command code selects the row and every operand is read back. -/
theorem decode_encode_command (ctx : CwContext) {i : Instr} {c : BitVec 4} (h : commandCode i = some c) :
    decode ctx (encode ctx i) = i := by
  cases i with
  | status | decode _ | canon _ | lookup _ | readEntry _ | readPrice _ | readConst _ | reservedCmd9 _ =>
    simp [encode, decode, decodeReq, reqBits_code]
  | encode key cond s0 s1 d0 d1 i0 i1 =>
    obtain ⟨hkey, hcond, hs0, hs1, hd0, hd1, hi0, hi1⟩ := encodeOperands_fields key cond s0 s1 d0 d1 i0 i1
    simp [encode, decode, decodeReq, reqBits_code, hkey, hcond, hs0, hs1, hd0, hd1, hi0, hi1]
  | subvar fam sidx ver =>
    obtain ⟨hfam, hsidx, hver⟩ := subvarOperands_fields fam sidx ver
    simp [encode, decode, decodeReq, reqBits_code, hfam, hsidx, hver]
  | reservedCmdAB low operands =>
    obtain rfl | rfl := BitVec.eq_zero_or_eq_one low <;> simp [encode, decode, decodeReq, reqBits_code]
  | reservedCmdCF low operands =>
    have all : ∀ l : BitVec 2, l = 0 ∨ l = 1 ∨ l = 2 ∨ l = 3 := by decide
    obtain rfl | rfl | rfl | rfl := all low <;> simp [encode, decode, decodeReq, reqBits_code]
  | _ => cases h

/-! ## Decode and encode are inverse (R70, R81, R83, R85) -/

/-- Settles O53: a command by its code and operands, a codeword by its gap bits, the derived constants and its family. -/
theorem decodeOfEncodeIsTheInstruction : Obligations.DecodeOfEncodeIsTheInstruction := by
  intro ctx i h
  cases i with
  | nopConst =>
    obtain ⟨hr, hc⟩ := Bool.and_eq_true_iff.mp h
    exact (decodeCw_canonical hr hc).trans (if_pos rfl)
  | panicConst =>
    obtain ⟨hrc, hne⟩ := Bool.and_eq_true_iff.mp h
    obtain ⟨hr, hc⟩ := Bool.and_eq_true_iff.mp hrc
    exact (decodeCw_canonical hr hc).trans ((if_neg (of_decide_eq_true hne)).trans (if_pos rfl))
  | noncanonicalGap11 c gap12 => exact decodeCw_codewordBits_gap11 ctx c gap12
  | noncanonicalGap12 c => exact decodeCw_codewordBits_gap12 ctx c
  | invalid c | nop c | add c | sub c | mul c | div c | jump c | context c | shift c | binop c | ptr c | nearCall c
  | log c | farCall c | ret c | uma c => exact decodeCw_codeword h
  | _ => exact decode_encode_command ctx rfl

/-- Settles O54: the words with gap bits, the two derived constants and the words of the slots' families are all. -/
theorem encodeOfDecodedCodewordIsTheWord : Obligations.EncodeOfDecodedCodewordIsTheWord := by
  intro ctx w hr
  change wellFormed ctx (decodeCw ctx w) = true ∧ encode ctx (decodeCw ctx w) = .cw w
  cases h11 : w.getLsbD 11 with
  | true =>
    rw [decodeCw_gap11 h11, encode, ← gap_of_bit11 h11, codewordBits_cutCodeword]
    exact ⟨rfl, rfl⟩
  | false =>
    cases h12 : w.getLsbD 12 with
    | true =>
      rw [decodeCw_gap12 h11 h12, encode, ← gap_of_bit12 h11 h12, codewordBits_cutCodeword]
      exact ⟨rfl, rfl⟩
    | false =>
      have hc : canonical w = true := (canonical_iff_bits w).mpr ⟨h11, h12⟩
      by_cases hnop : w = ctx.nopWord
      · subst hnop
        rw [decodeCw_canonical hr hc, if_pos rfl]
        exact ⟨by simp [wellFormed, hr, hc], rfl⟩
      by_cases hpanic : w = ctx.panicWord
      · subst hpanic
        rw [decodeCw_canonical hr hc, if_neg hnop, if_pos rfl]
        exact ⟨by simp [wellFormed, hr, hc, hnop], rfl⟩
      rw [decodeCw_family hr hc hnop hpanic, wellFormed_familyInstr, encode_familyInstr, codeword_cutCodeword hc,
        spellsFamily_iff, codeword_cutCodeword hc]
      exact ⟨⟨hr, rfl, hnop, hpanic⟩, rfl⟩

/-- Settles O55: the request of a command is the one the encoder writes. -/
theorem commandCodesSelectTheRow : Obligations.CommandCodesSelectTheRow := by
  intro ctx
  refine ⟨commandCode_decodeReq, fun i c h => ?_⟩
  obtain ⟨operands, he⟩ := encode_eq_reqBits ctx h
  exact ⟨reqBits c operands, reqBits_code c operands, he ▸ decode_encode_command ctx h⟩

/-! ## The ENTRY layout (R75 to R79) -/

@[simp] theorem Family.ofTag_tag (f : Family) : Family.ofTag f.tag = f := by
  cases f <;> rfl

@[simp] theorem Family.tag_ofTag (t : BitVec 4) : (Family.ofTag t).tag = t := by
  fin_cases t <;> rfl

@[simp] theorem SrcMode.ofCodes_codes (m : SrcMode) : SrcMode.ofCodes m.classCode m.optCode = some m := by
  cases m <;> rfl

@[simp] theorem DstMode.ofCodes_codes (m : DstMode) : DstMode.ofCodes m.classCode m.optCode = some m := by
  cases m <;> rfl

/-- A pair of codes that names a source mode is that mode's pair (R76). -/
theorem SrcMode.codes_of_ofCodes {cls : BitVec 2} {opt : BitVec 3} {m : SrcMode}
    (h : SrcMode.ofCodes cls opt = some m) : m.classCode = cls ∧ m.optCode = opt := by
  unfold SrcMode.ofCodes at h
  split at h <;> cases h
  all_goals
    exact ⟨BitVec.eq_of_toNat_eq (Eq.symm ‹cls.toNat = _›), BitVec.eq_of_toNat_eq (Eq.symm ‹opt.toNat = _›)⟩

theorem DstMode.codes_of_ofCodes {cls : BitVec 2} {opt : BitVec 3} {m : DstMode}
    (h : DstMode.ofCodes cls opt = some m) : m.classCode = cls ∧ m.optCode = opt := by
  unfold DstMode.ofCodes at h
  split at h <;> cases h
  all_goals
    exact ⟨BitVec.eq_of_toNat_eq (Eq.symm ‹cls.toNat = _›), BitVec.eq_of_toNat_eq (Eq.symm ‹opt.toNat = _›)⟩

/-- The ENTRY's fields by their places (R79). -/
theorem Variant.toEntry_fields (v : Variant) :
    v.toEntry.extractLsb' 0 4 = v.fam.tag ∧ v.toEntry.extractLsb' 4 8 = v.sub
      ∧ v.toEntry.extractLsb' 12 2 = v.src0.classCode ∧ v.toEntry.extractLsb' 14 3 = v.src0.optCode
      ∧ v.toEntry.extractLsb' 17 2 = v.dst0.classCode ∧ v.toEntry.extractLsb' 19 3 = v.dst0.optCode
      ∧ v.toEntry.extractLsb' 22 1 = BitVec.ofBool v.flag0 ∧ v.toEntry.extractLsb' 23 1 = BitVec.ofBool v.flag1
      ∧ v.toEntry.extractLsb' 24 8 = 0 := by
  unfold Variant.toEntry
  refine ⟨?_, ?_, ?_, ?_, ?_, ?_, ?_, ?_, ?_⟩ <;> (repeat rw [BitVec.extractLsb'_append_eq_of_le (by decide)])
  case refine_9 => exact BitVec.extractLsb'_eq_self
  all_goals exact BitVec.extractLsb'_append_eq_right

/-- A flag bit as a field of one bit. -/
theorem ofBool_getLsbD {w : Nat} (x : BitVec w) (i : Nat) : BitVec.ofBool (x.getLsbD i) = x.extractLsb' i 1 := by
  rw [BitVec.getLsbD_eq_extractLsb']
  obtain h | h := BitVec.eq_zero_or_eq_one (x.extractLsb' i 1) <;> rw [h] <;> rfl

theorem getLsbD_eq_of_extractLsb' {w : Nat} {x : BitVec w} {i : Nat} {b : Bool}
    (h : x.extractLsb' i 1 = BitVec.ofBool b) : x.getLsbD i = b :=
  BitVec.ofBool_eq_iff_eq.mp ((ofBool_getLsbD x i).trans h)

/-- `VARIANT(ENTRY(v)) = v` (R79). -/
theorem Variant.ofEntry_toEntry (v : Variant) : Variant.ofEntry v.toEntry = some v := by
  obtain ⟨hfam, hsub, hsc, hso, hdc, hdo, hf0, hf1, -⟩ := v.toEntry_fields
  rw [Variant.ofEntry, hfam, hsub, hsc, hso, hdc, hdo, getLsbD_eq_of_extractLsb' hf0, getLsbD_eq_of_extractLsb' hf1]
  simp

/-- Bits [31:24] are not read (R79, R171). -/
theorem Variant.ofEntry_low (hi : BitVec 8) (e : Entry) :
    Variant.ofEntry (hi ++ e.extractLsb' 0 24) = Variant.ofEntry e := by
  have low {i n : Nat} (h : i + n ≤ 24) : (hi ++ e.extractLsb' 0 24).extractLsb' i n = e.extractLsb' i n := by
    rw [BitVec.extractLsb'_append_eq_of_add_le h, BitVec.extractLsb'_extractLsb'_of_le h]
  simp (disch := decide) only [Variant.ofEntry, BitVec.getLsbD_eq_extractLsb', low]

/-- Everything a key that names a Variant says about it: each field of the key is the Variant's code there. -/
theorem Variant.ofEntry_eq_some {e : Entry} {v : Variant} (h : Variant.ofEntry e = some v) :
    v.fam.tag = e.extractLsb' 0 4 ∧ v.sub = e.extractLsb' 4 8 ∧ v.src0.classCode = e.extractLsb' 12 2
      ∧ v.src0.optCode = e.extractLsb' 14 3 ∧ v.dst0.classCode = e.extractLsb' 17 2
      ∧ v.dst0.optCode = e.extractLsb' 19 3 ∧ BitVec.ofBool v.flag0 = e.extractLsb' 22 1
      ∧ BitVec.ofBool v.flag1 = e.extractLsb' 23 1 := by
  unfold Variant.ofEntry at h
  split at h
  · rename_i src dst hsrc hdst
    cases h
    obtain ⟨hsc, hso⟩ := SrcMode.codes_of_ofCodes hsrc
    obtain ⟨hdc, hdo⟩ := DstMode.codes_of_ofCodes hdst
    exact ⟨Family.tag_ofTag _, rfl, hsc, hso, hdc, hdo, ofBool_getLsbD e 22, ofBool_getLsbD e 23⟩
  · cases h

/-- A key with clear reserved bits that names a Variant is its ENTRY. -/
theorem Variant.toEntry_of_ofEntry {e : Entry} {v : Variant} (h : Variant.ofEntry e = some v)
    (hres : e.extractLsb' 24 8 = 0) : v.toEntry = e := by
  obtain ⟨hfam, hsub, hsc, hso, hdc, hdo, hf0, hf1⟩ := Variant.ofEntry_eq_some h
  have hres' : 0#8 = e.extractLsb' 24 8 := hres.symm
  rw [Variant.toEntry, hfam, hsub, hsc, hso, hdc, hdo, hf0, hf1, hres']
  simp only [BitVec.extractLsb'_append_extractLsb'_eq_extractLsb']
  exact BitVec.extractLsb'_eq_self

/-- Settles O51, from the read-back of each field and the layout's nine fields tiling the ENTRY. -/
theorem entryFormatIsFaithful : Obligations.EntryFormatIsFaithful := by
  refine ⟨fun v => ?_, fun v hi => ?_, fun e v h => ?_, rfl⟩
  · obtain ⟨hfam, hsub, hsc, hso, hdc, hdo, hf0, hf1, hres⟩ := v.toEntry_fields
    exact ⟨hfam, hsub, hsc, hso, hdc, hdo, getLsbD_eq_of_extractLsb' hf0, getLsbD_eq_of_extractLsb' hf1, hres⟩
  · rw [Variant.ofEntry_low, Variant.ofEntry_toEntry]
  · rw [← Variant.ofEntry_low 0 e] at h
    exact Variant.toEntry_of_ofEntry h BitVec.extractLsb'_append_eq_left

end Sys2Proof
end

section
/-! PROOFS. The codeword rows of the opcode table (spec/30_encoding.md R83, R85): what they answer in READY, which
sub-variants the slots they select name, and the words of the TOY build. -/

namespace Sys2Proof

/-! ## The slots of a built table name sub-variants of the ROM (R22, R125, R133) -/

/-- The ROM has a record for the variant's sub-variant. -/
def Caps.Holds (c : Caps) (x : Variant) : Prop := ∃ sd, (c.get x.fam).subs[x.sub.toNat]? = some sd

theorem fam_sub_of_mem_enumSub {f : Family} {s : SubIdx} {cs cd : OpClass} {n : Fin 3} {x : Variant}
    (h : x ∈ enumSub f s cs cd n) : x.fam = f ∧ x.sub = s := by
  simp only [enumSub, List.mem_flatMap, List.mem_map] at h
  obtain ⟨_, -, _, -, _, -, rfl⟩ := h
  exact ⟨rfl, rfl⟩

/-- A variant of the family's list from index `s` on is one of the record at its own index. -/
theorem fam_sub_of_mem_enumSubs {f : Family} {d : Descriptor} {v : Version} {x : Variant} {s : Nat}
    {subs : List SubDesc} (h : x ∈ enumSubs f d v s subs) :
    x.fam = f ∧ ∃ k sd, subs[k]? = some sd ∧ x.sub = BitVec.ofNat 8 (s + k) := by
  induction subs generalizing s with
  | nil => cases h
  | cons sd rest ih =>
    obtain h | h := List.mem_append.mp h
    · split at h
      · obtain ⟨hf, hs⟩ := fam_sub_of_mem_enumSub h
        exact ⟨hf, 0, sd, rfl, hs⟩
      · cases h
    · obtain ⟨hf, k, sd', hk, hs⟩ := ih h
      exact ⟨hf, k + 1, sd', hk, by rw [hs, Nat.add_right_comm, Nat.add_assoc]⟩

/-- The enumeration visits only sub-variants of the ROM (R125): their indices fit 8 bits (R25 (b)). -/
theorem Caps.holds_of_mem_enum {c : Caps} (hc : ∀ f, (c.get f).subs.length ≤ 256) {v : Version} {x : Variant}
    (h : x ∈ enum c v) : c.Holds x := by
  obtain ⟨f, -, h⟩ := List.mem_flatMap.mp h
  obtain ⟨rfl, k, sd, hk, hs⟩ := fam_sub_of_mem_enumSubs h
  have hlt : k < 256 := (List.getElem?_eq_some_iff.mp hk).1.trans_le (hc x.fam)
  refine ⟨sd, ?_⟩
  rw [hs, Nat.zero_add, BitVec.toNat_ofNat, Nat.mod_eq_of_lt hlt, hk]

/-- The merge of one entry brings in nothing but that entry (R128). -/
theorem mem_of_mem_mergeOne {l : List Variant} {s x : Variant} (h : x ∈ mergeOne l s) : x ∈ l ∨ x = s := by
  induction l with
  | nil => exact .inr (List.mem_singleton.mp h)
  | cons a rest ih =>
    unfold mergeOne at h
    split at h
    · obtain rfl | h := List.mem_cons.mp h
      · exact .inr rfl
      · exact .inl (List.mem_cons_of_mem a h)
    · obtain rfl | h := List.mem_cons.mp h
      · exact .inl List.mem_cons_self
      · exact (ih h).imp_left (List.mem_cons_of_mem a)

theorem mem_of_mem_merge {acc new : List Variant} {x : Variant} (h : x ∈ merge acc new) : x ∈ acc ∨ x ∈ new := by
  unfold merge at h
  induction new generalizing acc with
  | nil => exact .inl h
  | cons s rest ih =>
    obtain h | h := ih h
    · exact (mem_of_mem_mergeOne h).imp_right (List.mem_cons.mpr <| .inl ·)
    · exact .inr (List.mem_cons_of_mem s h)

theorem foldVersion_ok {c : Caps} {acc acc' : List Variant} {v : Version} (h : foldVersion c acc v = .ok acc') :
    acc' = merge acc (enum c v) := by
  simp only [foldVersion] at h
  split at h
  · split at h
    · cases h; rfl
    · cases h
  · cases h

section accumulator

variable {cfg : Configuration} {P : Variant → Prop} (henum : ∀ v, ∀ x ∈ enum cfg.caps v, P x)
include henum

theorem forall_mem_of_foldLater {v : Version} {acc acc' : List Variant} {vs : List Version}
    (h : foldLater cfg.caps v acc vs = .ok acc') (hacc : ∀ x ∈ acc, P x) : ∀ x ∈ acc', P x := by
  induction vs generalizing acc with
  | nil => cases h; exact hacc
  | cons w vs ih =>
    unfold foldLater at h
    split at h
    · split at h
      · rename_i hw
        refine ih h fun x hx => ?_
        rw [foldVersion_ok hw] at hx
        exact (mem_of_mem_merge hx).elim (hacc x) (henum w x)
      · cases h
    · cases h; exact hacc

/-- What holds of every enumerated variant holds of every entry of the accumulator (R126 to R130). -/
theorem forall_mem_of_accumulatorAt {v : Version} {acc : List Variant} (h : accumulatorAt cfg v = .ok acc) :
    ∀ x ∈ acc, P x := by
  unfold accumulatorAt at h
  split at h
  · cases h
  · rename_i hfirst
    exact forall_mem_of_foldLater henum h fun x hx => henum _ x (foldFirst_ok hfirst ▸ hx)

end accumulator

/-- Every slot of a built table, padding included, names a sub-variant of the ROM. -/
theorem holds_readTable_of_build {cfg : Configuration} {v : Version} {T : Tables} (hwf : cfg.wf = true)
    (h : build cfg v = .ok T) (i : Slot) : cfg.caps.Holds (readTable T.table i) := by
  obtain ⟨-, -, hsubs, -⟩ := (Configuration.wf_iff cfg).mp hwf
  obtain ⟨acc, hacc, -, -, htable, -⟩ := build_ok_accumulator h
  have hentries : ∀ x ∈ acc, cfg.caps.Holds x :=
    forall_mem_of_accumulatorAt (fun _ _ => Caps.holds_of_mem_enum fun f => (hsubs f).2) hacc
  have hinvalid : cfg.caps.Holds invalidV := ⟨_, List.getElem?_eq_getElem (hsubs .invalid).1⟩
  rw [htable, readTable_padTable, List.getD_eq_getElem?_getD]
  cases hi : acc[i.toNat]? with
  | none => exact hinvalid
  | some x => exact hentries x (List.mem_of_getElem? hi)

/-- The attributes of a sub-variant the ROM holds are its record's (R102). -/
theorem Caps.attrs_eq {c : Caps} {f : Family} {s : SubIdx} {sd : SubDesc} (h : (c.get f).subs[s.toNat]? = some sd) :
    c.attrs f s = sd := by
  rw [Caps.attrs, Descriptor.sub?, h, Option.getD_some]

end Sys2Proof

namespace Sys2Proof.Machine

open Sys2Proof

/-! ## The codeword rows in READY (R151, R152) -/

theorem decodeAnswer_canonical {w : Word} (h : canonical w = true) (s : State) :
    s.decodeAnswer w = (.ok, .decode (s.decodeOk w)) :=
  if_pos h

theorem decodeAnswer_noncanonical {w : Word} (h : canonical w = false) (s : State) :
    s.decodeAnswer w = (.noncanonical, .decode s.maskedDecode) :=
  if_neg (Bool.eq_false_iff.mp h)

theorem familyRows_eq (c : Codeword) : familyRows c = Family.all.map fun f => (familyInstr f c, f) := rfl

theorem ownResponse_familyInstr (s : State) (f : Family) (c : Codeword) :
    ownResponse s (familyInstr f c) = (.ok, .decode (s.decodeOk (codeword c))) := by
  rw [← decodeAnswer_canonical (canonical_codeword c)]
  cases f <;> rfl

/-- Settles O14: a family row's word is canonical and cut into the row's own fields; the ROM holds the sub-variant of
every slot of a built table. -/
theorem familyCodewordsDecodeToTheirSlot : Obligations.FamilyCodewordsDecodeToTheirSlot := by
  intro s c hready p hp e he
  rw [familyRows_eq] at hp
  obtain ⟨f, -, rfl⟩ := List.mem_map.mp hp
  subst he
  refine ⟨_, ?_, rfl, fun hf => ?_, fun hinv hr => ?_⟩
  · rw [exec_ready _ hready, ownResponse_familyInstr, State.decodeOk, cutCodeword_codeword]
    rfl
  · obtain ⟨hfam, -⟩ := (readTable s.table c.index).toEntry_fields
    exact hfam.trans (congrArg Family.tag hf)
  · obtain ⟨sd, hsd⟩ := holds_readTable_of_build hinv.cfgOk (hinv.ready hr hready) c.index
    exact ⟨sd, hsd, congrArg SubDesc.kernel (Caps.attrs_eq hsd), congrArg SubDesc.staticOk (Caps.attrs_eq hsd)⟩

/-- Settles O16: neither row's word is canonical, and word 0 is. -/
theorem noncanonicalRowsAnswerMasked : Obligations.NoncanonicalRowsAnswerMasked := by
  intro s c g hready i hi
  have hzero : ownResponse s (.decode 0) = (.ok, .decode s.maskedDecode) := decodeAnswer_canonical rfl s
  have hrow : ownResponse s i = (.noncanonical, .decode s.maskedDecode) := by
    have hgap : ∀ g : BitVec 1, (g ++ 1#1 : BitVec 2) ≠ 0 := by decide
    obtain rfl | rfl : i = .noncanonicalGap11 c g ∨ i = .noncanonicalGap12 c := by simpa using hi
    · exact decodeAnswer_noncanonical (not_canonical_codewordBits c (hgap g)) s
    · exact decodeAnswer_noncanonical (not_canonical_codewordBits c (by decide)) s
  refine ⟨s.maskedDecode, ?_, ?_⟩
  · rw [exec_ready _ hready, hrow]; rfl
  · rw [exec_ready _ hready, hzero]; rfl

/-- Settles O26: a step serves the request with what the decoder reads from it, well formed or not. -/
theorem stepRunsTheDecodedInstruction : Obligations.StepRunsTheDecodedInstruction := by
  rintro s p rest _ hw hr hi rfl -
  exact step_request hw hr hi

end Sys2Proof.Machine

namespace Sys2Proof

/-! ## Words of the TOY build (95_test_vectors.md section 2) -/

theorem builtContext_toy :
    (builtContext toyConfig toyVersion).ready = true ∧ (builtContext toyConfig toyVersion).nopWord = 1
      ∧ (builtContext toyConfig toyVersion).panicWord = 0x14
      ∧ (readTable (builtContext toyConfig toyVersion).table 2).fam = .add
      ∧ (readTable (builtContext toyConfig toyVersion).table 23).fam = .log := by
  decide

/-- Settles O56, from the facts of the TOY build that the four words use. -/
theorem someWordsDecodeAsWritten : Obligations.SomeWordsDecodeAsWritten := by
  obtain ⟨hr, hnop, hpanic, hslot2, hslot23⟩ := builtContext_toy
  have decode64 (w : Nat) :
      decodeTableWord 64 w = some (decodeCw (builtContext toyConfig toyVersion) (BitVec.ofNat 64 w)) := rfl
  refine ⟨?_, ?_, ?_, rfl⟩
  · rw [decode64, decodeCw_family hr (by decide) (hnop ▸ by decide) (hpanic ▸ by decide)]
    exact congrArg (some ∘ (familyInstr · _)) hslot2
  · rw [decode64, decodeCw_family hr (by decide) (hnop ▸ by decide) (hpanic ▸ by decide)]
    exact congrArg (some ∘ (familyInstr · _)) hslot23
  · rw [decode64, decodeCw_canonical hr (by decide), hnop, hpanic]
    rfl

end Sys2Proof
end

section
/-! PROOFS. The descriptor ROM at the command port (spec/40_descriptors.md): SUBVAR answers from a record and its
availability alone, and availability only grows with the version. -/

namespace Sys2Proof

/-! ## Availability (R23) -/

theorem Descriptor.availSub_iff {d : Descriptor} {sd : SubDesc} {v : Version} :
    d.availSub sd v = true ↔ d.famMin ≤ v ∧ sd.subMin ≤ v := by
  simp [Descriptor.availSub]

/-- What is available stays so at every later version. -/
theorem Descriptor.availSub_mono {d : Descriptor} {sd : SubDesc} {v v' : Version} (hle : v ≤ v')
    (h : d.availSub sd v = true) : d.availSub sd v' = true := by
  obtain ⟨hfam, hsub⟩ := availSub_iff.mp h
  exact availSub_iff.mpr ⟨BitVec.le_trans hfam hle, BitVec.le_trans hsub hle⟩

end Sys2Proof

namespace Sys2Proof.Machine

open Sys2Proof

/-! ## SUBVAR (R104) -/

/-- The result record of SUBVAR for a record of the ROM. -/
def subvarRecord (sidx : SubIdx) (sd : SubDesc) : SubvarResult :=
  { sidx := sidx, subMin := sd.subMin, kernel := sd.kernel, staticOk := sd.staticOk,
    priceFormula := sd.priceFormula, floor := sd.floor }

section subvarAnswer

variable {s : State} {f : BitVec 4} {sidx : SubIdx} {ver : Version}

theorem subvarAnswer_available {sd : SubDesc} (hsd : (s.cfg.caps.get (Family.ofTag f)).sub? sidx = some sd)
    (ha : (s.cfg.caps.get (Family.ofTag f)).availSub sd ver = true) :
    s.subvarAnswer f sidx ver = (.ok, .subvar (subvarRecord sidx sd)) := by
  simp [State.subvarAnswer, hsd, ha, subvarRecord]

theorem subvarAnswer_unavailable
    (h : ∀ sd, (s.cfg.caps.get (Family.ofTag f)).sub? sidx = some sd →
      (s.cfg.caps.get (Family.ofTag f)).availSub sd ver = false) :
    s.subvarAnswer f sidx ver = (.notFound, .subvar zeroSubvar) := by
  cases hsd : (s.cfg.caps.get (Family.ofTag f)).sub? sidx with
  | none => simp [State.subvarAnswer, hsd]
  | some sd => simp [State.subvarAnswer, hsd, h sd hsd]

/-- OK is answered for an available record alone, and with that record. -/
theorem subvarAnswer_ok {r : Result} (h : s.subvarAnswer f sidx ver = (.ok, r)) :
    ∃ sd, (s.cfg.caps.get (Family.ofTag f)).sub? sidx = some sd
      ∧ (s.cfg.caps.get (Family.ofTag f)).availSub sd ver = true ∧ r = .subvar (subvarRecord sidx sd) := by
  by_cases ha : ∃ sd, (s.cfg.caps.get (Family.ofTag f)).sub? sidx = some sd
      ∧ (s.cfg.caps.get (Family.ofTag f)).availSub sd ver = true
  · obtain ⟨sd, hsd, hav⟩ := ha
    rw [subvarAnswer_available hsd hav] at h
    cases h
    exact ⟨sd, hsd, hav, rfl⟩
  · rw [subvarAnswer_unavailable fun sd hsd => Bool.eq_false_iff.mpr fun hav => ha ⟨sd, hsd, hav⟩] at h
    cases h

/-- An OK answer is the answer at every later version (R106). -/
theorem subvarAnswer_ok_mono {ver' : Version} {r : Result} (hle : ver ≤ ver')
    (h : s.subvarAnswer f sidx ver = (.ok, r)) : s.subvarAnswer f sidx ver' = (.ok, r) := by
  obtain ⟨sd, hsd, hav, rfl⟩ := subvarAnswer_ok h
  exact subvarAnswer_available hsd (Descriptor.availSub_mono hle hav)

end subvarAnswer

/-- In READY the answer at the response port is the instruction's own response and determines it. -/
theorem exec_ready_eq_answer_iff {i : Instr} {s : State} {c : RespCode} {r : Result} (h : s.state = .ready) :
    exec i s = .next (s.answer i c r) ↔ ownResponse s i = (c, r) := by
  simp [exec_ready i h, State.answer, Prod.ext_iff]

/-- Settles O52: availability grows with the version and the record does not depend on it. -/
theorem subvarAnswersAreStable : Obligations.SubvarAnswersAreStable := by
  intro s f sidx v v' r hready hle h
  have hown : ownResponse s (.subvar f sidx v) = (.ok, r) := (exec_ready_eq_answer_iff hready).mp h
  exact (exec_ready_eq_answer_iff hready).mpr (subvarAnswer_ok_mono hle hown)

/-- Settles O12, from the response order of R219 and SUBVAR's own two answers. -/
theorem subvarAnswersAvailableSubvariants : Obligations.SubvarAnswersAvailableSubvariants := by
  intro s f sidx ver
  refine ⟨exec_building rfl, exec_failed rfl, fun hready sd hsd hfam hsub => ?_, fun hready hno => ?_⟩
  · rw [← Family.ofTag_tag f] at hsd hfam
    exact ⟨_, (exec_ready_eq_answer_iff hready).mpr
      (subvarAnswer_available hsd (Descriptor.availSub_iff.mpr ⟨hfam, hsub⟩)), rfl⟩
  · refine (exec_ready_eq_answer_iff hready).mpr (subvarAnswer_unavailable fun sd hsd => ?_)
    rw [Family.ofTag_tag] at hsd ⊢
    exact Bool.eq_false_iff.mpr fun hav => not_and_or.mpr (hno sd hsd) (Descriptor.availSub_iff.mp hav)

end Sys2Proof.Machine
end

section
/-! PROOFS. The enumeration of one version (spec/41_synthesis.md R123 to R125): semantic equality, and the length, the
members and the order of the enumeration. -/

namespace Sys2Proof

/-! ## Semantic equality (R124) is having the same representative -/

/-- The one spelling that stands for the two register-only ones. -/
def SrcMode.sem : SrcMode → SrcMode
  | .regOrImmReg => .regOnly
  | m => m

/-- The representative of a Variant's class of semantically equal Variants. -/
def Variant.sem (x : Variant) : Variant := { x with src0 := x.src0.sem }

theorem SrcMode.sem_eq_iff (m n : SrcMode) :
    m.sem = n.sem ↔ m = n ∨ (m = .regOnly ∧ n = .regOrImmReg) ∨ (m = .regOrImmReg ∧ n = .regOnly) := by
  cases m <;> cases n <;> decide

/-- Semantic equality, written out (R124). -/
theorem semEq_iff (a b : Variant) :
    semEq a b = true ↔
      (a.fam = b.fam ∧ a.sub = b.sub ∧ a.flag1 = b.flag1 ∧ a.flag0 = b.flag0 ∧ a.dst0 = b.dst0
        ∧ (a.src0 = b.src0 ∨ (a.src0 = .regOnly ∧ b.src0 = .regOrImmReg)
          ∨ (a.src0 = .regOrImmReg ∧ b.src0 = .regOnly))) := by
  simp [semEq, and_assoc, or_assoc]

/-- Two Variants are semantically equal exactly if they have one representative, so semantic equality is an equivalence. -/
theorem semEq_iff_sem (a b : Variant) : semEq a b = true ↔ a.sem = b.sem := by
  rw [semEq_iff, ← SrcMode.sem_eq_iff, Variant.sem, Variant.sem, Variant.mk.injEq]
  tauto

theorem semEq_eq_false_iff (a b : Variant) : semEq a b = false ↔ a.sem ≠ b.sem := by
  rw [Bool.eq_false_iff, ne_eq, semEq_iff_sem]

/-- Settles O46: equality of representatives is reflexive and symmetric. -/
theorem semanticEqualityIsAsSpecified : Obligations.SemanticEqualityIsAsSpecified := by
  refine ⟨fun a => (semEq_iff_sem a a).mpr rfl, fun a b => ?_, semEq_iff⟩
  rw [Bool.eq_iff_iff, semEq_iff_sem, semEq_iff_sem, eq_comm]

/-! ## The length of the enumeration (R123) -/

theorem OpClass.length_srcModes (cs : OpClass) : cs.srcModes.length = cs.nIn := by
  cases cs <;> rfl

theorem OpClass.length_dstModes (cd : OpClass) : cd.dstModes.length = cd.nOut := by
  cases cd <;> rfl

theorem length_flagCombos (n : Fin 3) : (flagCombos n).length = 2 ^ n.val := by
  simp [flagCombos]

theorem length_enumSub (f : Family) (s : SubIdx) (cs cd : OpClass) (n : Fin 3) :
    (enumSub f s cs cd n).length = cs.nIn * cd.nOut * 2 ^ n.val := by
  simp [enumSub, List.length_flatMap, OpClass.length_srcModes, OpClass.length_dstModes, length_flagCombos, mul_assoc]

theorem length_enumSubs (f : Family) (d : Descriptor) (v : Version) (s : Nat) (subs : List SubDesc) :
    (enumSubs f d v s subs).length
      = (subs.countP fun sd => d.availSub sd v) * ((d.srcClass v).nIn * (d.dstClass v).nOut * 2 ^ d.nFlags.val) := by
  induction subs generalizing s with
  | nil => simp [enumSubs]
  | cons sd rest ih =>
    rw [enumSubs, List.length_append, ih, List.countP_cons]
    cases d.availSub sd v
    · simp
    · simp [length_enumSub, Nat.add_mul, Nat.add_comm]

theorem length_enum (c : Caps) (v : Version) : (enum c v).length = density c v := by
  simp [enum, density, List.length_flatMap, length_enumSubs]

/-- Settles O38, from the length of the list of each sub-variant. -/
theorem enumerationHasTheDensity : Obligations.EnumerationHasTheDensity := length_enum

/-! ## The members of the enumeration (R125) -/

theorem OpClass.mem_srcModes (cs : OpClass) (m : SrcMode) : m ∈ cs.srcModes ↔ m.classCode = Machine.classCode cs := by
  cases cs <;> cases m <;> decide

theorem OpClass.mem_dstModes (cd : OpClass) (m : DstMode) : m ∈ cd.dstModes ↔ m.classCode = Machine.classCode cd := by
  cases cd <;> cases m <;> decide

/-- An undeclared flag stays clear (R78). -/
theorem mem_flagCombos (n : Fin 3) (flag1 flag0 : Bool) :
    (flag1, flag0) ∈ flagCombos n ↔ (n.val = 0 → flag0 = false) ∧ (n.val ≤ 1 → flag1 = false) := by
  revert n flag1 flag0; decide

theorem mem_enumSub {f : Family} {s : SubIdx} {cs cd : OpClass} {n : Fin 3} {x : Variant} :
    x ∈ enumSub f s cs cd n ↔ x.fam = f ∧ x.sub = s ∧ x.src0.classCode = Machine.classCode cs
      ∧ x.dst0.classCode = Machine.classCode cd ∧ (n.val = 0 → x.flag0 = false) ∧ (n.val ≤ 1 → x.flag1 = false) := by
  rw [← OpClass.mem_srcModes, ← OpClass.mem_dstModes, ← mem_flagCombos]
  simp only [enumSub, List.mem_flatMap, List.mem_map]
  constructor
  · rintro ⟨i, hi, o, ho, ⟨k1, k0⟩, hk, rfl⟩
    exact ⟨rfl, rfl, hi, ho, hk⟩
  · rintro ⟨rfl, rfl, hi, ho, hk⟩
    exact ⟨_, hi, _, ho, _, hk, rfl⟩

theorem mem_enumSubs {f : Family} {d : Descriptor} {v : Version} {s : Nat} {subs : List SubDesc} {x : Variant} :
    x ∈ enumSubs f d v s subs ↔ ∃ k sd, subs[k]? = some sd ∧ d.availSub sd v = true
      ∧ x ∈ enumSub f (BitVec.ofNat 8 (s + k)) (d.srcClass v) (d.dstClass v) d.nFlags := by
  induction subs generalizing s with
  | nil => simp [enumSubs]
  | cons sd rest ih =>
    rw [enumSubs, List.mem_append, ih]
    refine .trans (or_congr ?_ ?_) Nat.or_exists_add_one
    · cases h : d.availSub sd v <;> simp [h]
    · simp only [List.getElem?_cons_succ, Nat.add_assoc, Nat.add_comm 1]

/-- Within the premises a family's list holds the available records' Variants, each at its record's index. -/
theorem mem_enumSubs_zero {f : Family} {d : Descriptor} (hd : d.subs.length ≤ 256) {v : Version} {x : Variant} :
    x ∈ enumSubs f d v 0 d.subs ↔ ∃ sd, d.subs[x.sub.toNat]? = some sd ∧ d.availSub sd v = true
      ∧ x ∈ enumSub f x.sub (d.srcClass v) (d.dstClass v) d.nFlags := by
  rw [mem_enumSubs]
  constructor
  · rintro ⟨k, sd, hk, hav, hx⟩
    have hlt : k < 2 ^ 8 := (List.getElem?_eq_some_iff.mp hk).1.trans_le hd
    rw [Nat.zero_add] at hx
    obtain ⟨-, hsub⟩ := fam_sub_of_mem_enumSub hx
    have hnat : x.sub.toNat = k := by rw [hsub, BitVec.toNat_ofNat, Nat.mod_eq_of_lt hlt]
    exact ⟨sd, hnat ▸ hk, hav, hsub ▸ hx⟩
  · rintro ⟨sd, hk, hav, hx⟩
    exact ⟨_, sd, hk, hav, by rwa [Nat.zero_add, BitVec.ofNat_toNat, BitVec.setWidth_eq]⟩

theorem mem_enum {c : Caps} {v : Version} {x : Variant} :
    x ∈ enum c v ↔ x ∈ enumSubs x.fam (c.get x.fam) v 0 (c.get x.fam).subs := by
  rw [enum, List.mem_flatMap]
  constructor
  · rintro ⟨f, -, hx⟩
    obtain ⟨rfl, -⟩ := fam_sub_of_mem_enumSubs hx
    exact hx
  · exact fun hx => ⟨x.fam, Family.mem_all _, hx⟩

/-- One version gives a family one source class. -/
theorem src_classCode_of_mem_enum {c : Caps} {v : Version} {x : Variant} (hx : x ∈ enum c v) :
    x.src0.classCode = Machine.classCode ((c.get x.fam).srcClass v) := by
  obtain ⟨_, _, -, -, hx⟩ := mem_enumSubs.mp (mem_enum.mp hx)
  obtain ⟨-, -, hsrc, -⟩ := mem_enumSub.mp hx
  exact hsrc

/-! ## The order of the enumeration (R100, R125) -/

open Machine (enumKey)

/-- The order of the enumeration. -/
def KeyLt (a b : Variant) : Prop := enumKey a < enumKey b

section keyLt

variable {a b : Variant}

theorem keyLt_of_tag (h : a.fam.tag.toNat < b.fam.tag.toNat) : KeyLt a b := by
  have := a.sub.isLt; have := a.src0.optCode.isLt; have := a.dst0.optCode.isLt
  have := a.flag1.toNat_lt; have := a.flag0.toNat_lt
  unfold KeyLt enumKey
  omega

theorem keyLt_of_sub (hf : a.fam = b.fam) (h : a.sub.toNat < b.sub.toNat) : KeyLt a b := by
  have := a.src0.optCode.isLt; have := a.dst0.optCode.isLt
  have := a.flag1.toNat_lt; have := a.flag0.toNat_lt
  unfold KeyLt enumKey
  rw [hf]
  omega

theorem keyLt_of_src (hf : a.fam = b.fam) (hs : a.sub = b.sub) (h : a.src0.optCode.toNat < b.src0.optCode.toNat) :
    KeyLt a b := by
  have := a.dst0.optCode.isLt; have := a.flag1.toNat_lt; have := a.flag0.toNat_lt
  unfold KeyLt enumKey
  rw [hf, hs]
  omega

theorem keyLt_of_dst (hf : a.fam = b.fam) (hs : a.sub = b.sub) (hi : a.src0 = b.src0)
    (h : a.dst0.optCode.toNat < b.dst0.optCode.toNat) : KeyLt a b := by
  have := a.flag1.toNat_lt; have := a.flag0.toNat_lt
  unfold KeyLt enumKey
  rw [hf, hs, hi]
  omega

theorem keyLt_of_flags (hf : a.fam = b.fam) (hs : a.sub = b.sub) (hi : a.src0 = b.src0) (ho : a.dst0 = b.dst0)
    (h : a.flag1.toNat * 2 + a.flag0.toNat < b.flag1.toNat * 2 + b.flag0.toNat) : KeyLt a b := by
  unfold KeyLt enumKey
  rw [hf, hs, hi, ho]
  omega

end keyLt

/-- The options of a class and the flag combinations are each listed in ascending order, so the three nested loops of one
sub-variant ascend. -/
theorem pairwise_enumSub (f : Family) (s : SubIdx) (cs cd : OpClass) (n : Fin 3) :
    (enumSub f s cs cd n).Pairwise KeyLt := by
  have hsrc : cs.srcModes.Pairwise (fun i j => i.optCode.toNat < j.optCode.toNat) := by cases cs <;> decide
  have hdst : cd.dstModes.Pairwise (fun i j => i.optCode.toNat < j.optCode.toNat) := by cases cd <;> decide
  have hflags : (flagCombos n).Pairwise (fun k l => k.1.toNat * 2 + k.2.toNat < l.1.toNat * 2 + l.2.toNat) := by
    revert n; decide
  refine List.pairwise_flatMap.mpr ⟨fun i _ => List.pairwise_flatMap.mpr ⟨fun o _ => ?_, ?_⟩, ?_⟩
  · refine List.pairwise_map.mpr (hflags.imp fun {k l} hkl => ?_)
    exact keyLt_of_flags rfl rfl rfl rfl hkl
  · refine hdst.imp fun {o o'} hoo => ?_
    simp only [List.mem_map]
    rintro _ ⟨k, -, rfl⟩ _ ⟨l, -, rfl⟩
    exact keyLt_of_dst rfl rfl rfl hoo
  · refine hsrc.imp fun {i j} hij => ?_
    simp only [List.mem_flatMap, List.mem_map]
    rintro _ ⟨o, -, k, -, rfl⟩ _ ⟨o', -, l, -, rfl⟩
    exact keyLt_of_src rfl rfl hij

theorem pairwise_enumSubs (f : Family) (d : Descriptor) (v : Version) {s : Nat} {subs : List SubDesc}
    (h : s + subs.length ≤ 256) : (enumSubs f d v s subs).Pairwise KeyLt := by
  induction subs generalizing s with
  | nil => exact List.Pairwise.nil
  | cons sd rest ih =>
    rw [List.length_cons] at h
    refine List.pairwise_append.mpr ⟨?_, ih (by omega), fun a ha b hb => ?_⟩
    · split
      · exact pairwise_enumSub ..
      · exact List.Pairwise.nil
    · obtain ⟨hbf, k, sd', hk, hbs⟩ := fam_sub_of_mem_enumSubs hb
      have hlt : k < rest.length := (List.getElem?_eq_some_iff.mp hk).1
      split at ha
      · obtain ⟨haf, has⟩ := fam_sub_of_mem_enumSub ha
        refine keyLt_of_sub (haf.trans hbf.symm) ?_
        rw [has, hbs, BitVec.toNat_ofNat, BitVec.toNat_ofNat]
        omega
      · cases ha

section enumeration

variable {c : Caps} (hc : ∀ f, (c.get f).subs.length ≤ 256) (v : Version)
include hc

theorem pairwise_enum : (enum c v).Pairwise KeyLt := by
  have htags : Family.all.Pairwise (fun f g => f.tag.toNat < g.tag.toNat) := by decide
  refine List.pairwise_flatMap.mpr ⟨fun f _ => pairwise_enumSubs _ _ _ (by simpa using hc f), ?_⟩
  refine htags.imp fun hfg a ha b hb => keyLt_of_tag ?_
  obtain ⟨rfl, -⟩ := fam_sub_of_mem_enumSubs ha
  obtain ⟨rfl, -⟩ := fam_sub_of_mem_enumSubs hb
  exact hfg

theorem nodup_enum : (enum c v).Nodup :=
  (pairwise_enum hc v).imp fun {a b} (h : enumKey a < enumKey b) (hab : a = b) => absurd h (hab ▸ lt_irrefl _)

end enumeration

end Sys2Proof

namespace Sys2Proof.Machine

open Sys2Proof

/-- Settles O42, from the members of each family's list and the three nested orders. -/
theorem enumerationListsTheVariantsInOrder : Obligations.EnumerationListsTheVariantsInOrder := by
  intro cfg v hwf
  obtain ⟨-, -, hsubs, -⟩ := (Configuration.wf_iff cfg).mp hwf
  refine ⟨fun x => ?_, pairwise_enum (fun f => (hsubs f).2) v⟩
  rw [mem_enum, mem_enumSubs_zero (hsubs x.fam).2]
  simp only [mem_enumSub, Descriptor.availSub_iff, true_and]
  constructor
  · rintro ⟨sd, hsd, hav, hmodes⟩
    exact ⟨⟨sd, hsd, hav⟩, hmodes⟩
  · rintro ⟨⟨sd, hsd, hav⟩, hmodes⟩
    exact ⟨sd, hsd, hav, hmodes⟩

end Sys2Proof.Machine
end

section
/-! PROOFS. The fold over the versions (spec/41_synthesis.md R126 to R130): one merge in closed form, which rearranges the
version's enumeration, and the accumulator at a registry version from that at the version before. -/

namespace Sys2Proof

/-! ## The merge of one version (R127, R128) -/

/-- Pairwise not semantically equal. -/
def SemDistinct (l : List Variant) : Prop := (l.map Variant.sem).Nodup

theorem SemDistinct.nodup {l : List Variant} (h : SemDistinct l) : l.Nodup := List.Nodup.of_map _ h

theorem SemDistinct.eq_of_semEq {l : List Variant} (h : SemDistinct l) {x y : Variant} (hx : x ∈ l) (hy : y ∈ l)
    (hxy : semEq x y = true) : x = y :=
  List.inj_on_of_nodup_map h hx hy ((semEq_iff_sem x y).mp hxy)

theorem SemDistinct.perm {l l' : List Variant} (h : SemDistinct l) (hp : l'.Perm l) : SemDistinct l' :=
  (hp.map Variant.sem).nodup_iff.mpr h

/-- What the merge puts in the place of `x`: its semantic counterpart among the new entries, or `x` itself where there is
none (R128). -/
def counterpart (new : List Variant) (x : Variant) : Variant := (new.find? (semEq x)).getD x

/-- No entry of the accumulator is semantically equal to `y`, so the merge appends `y` (R128). -/
def unmatched (acc : List Variant) (y : Variant) : Bool := acc.all fun x => !semEq x y

theorem counterpart_nil (x : Variant) : counterpart [] x = x := rfl

theorem counterpart_cons (s : Variant) (new : List Variant) (x : Variant) :
    counterpart (s :: new) x = if semEq x s then s else counterpart new x := by
  unfold counterpart
  rw [List.find?_cons]
  cases semEq x s <;> rfl

theorem counterpart_of_forall {new : List Variant} {x : Variant} (h : ∀ y ∈ new, semEq x y = false) :
    counterpart new x = x := by
  rw [counterpart, List.find?_eq_none.mpr fun y hy => Bool.eq_false_iff.mp (h y hy), Option.getD_none]

/-- Where there is a counterpart it is one of the new entries and semantically equal. -/
theorem counterpart_spec {new : List Variant} {x : Variant} (h : ∃ y ∈ new, semEq x y = true) :
    counterpart new x ∈ new ∧ semEq x (counterpart new x) = true := by
  obtain ⟨y, hy⟩ := Option.isSome_iff_exists.mp (List.find?_isSome.mpr h)
  rw [counterpart, hy, Option.getD_some]
  exact ⟨List.mem_of_find?_eq_some hy, List.find?_some hy⟩

theorem unmatched_iff {acc : List Variant} {y : Variant} : unmatched acc y = true ↔ y.sem ∉ acc.map Variant.sem := by
  simp [unmatched, semEq_eq_false_iff]

/-- A merge of one entry keeps the classes of the accumulator in their places and appends the entry's where it is new. -/
theorem map_sem_mergeOne (acc : List Variant) (s : Variant) :
    (mergeOne acc s).map Variant.sem = acc.map Variant.sem ++ if unmatched acc s then [s.sem] else [] := by
  induction acc with
  | nil => rfl
  | cons a rest ih =>
    cases h : semEq a s with
    | true => simp [mergeOne, unmatched, h, (semEq_iff_sem a s).mp h]
    | false => simpa [mergeOne, unmatched, h] using ih

theorem SemDistinct.mergeOne {acc : List Variant} (h : SemDistinct acc) (s : Variant) :
    SemDistinct (mergeOne acc s) := by
  rw [SemDistinct, map_sem_mergeOne]
  split
  · rename_i hs
    exact List.Nodup.append h (List.nodup_singleton _)
      (List.disjoint_singleton.mpr (unmatched_iff.mp hs))
  · rwa [List.append_nil]

/-- One entry overwrites its counterpart in place, or is appended (R128). -/
theorem mergeOne_eq {acc : List Variant} (h : SemDistinct acc) (s : Variant) :
    mergeOne acc s = acc.map (counterpart [s]) ++ [s].filter (unmatched acc) := by
  induction acc with
  | nil => rfl
  | cons a rest ih =>
    obtain ⟨ha, hrest⟩ := List.nodup_cons.mp h
    cases has : semEq a s with
    | true =>
      have hkeep : rest.map (counterpart [s]) = rest := by
        refine (List.map_congr_left fun x hx => counterpart_of_forall fun y hy => ?_).trans (List.map_id rest)
        rw [List.mem_singleton.mp hy, semEq_eq_false_iff, ← (semEq_iff_sem a s).mp has]
        exact fun hxa => ha (hxa ▸ List.mem_map_of_mem hx)
      simp [Sys2Proof.mergeOne, counterpart_cons, unmatched, has, hkeep]
    | false => simpa [Sys2Proof.mergeOne, counterpart_cons, counterpart_nil, unmatched, has, List.filter_cons] using ih hrest

/-- The merge in closed form (R128): every entry is replaced at its index by its counterpart, and the new entries without
one are appended in their order. -/
theorem merge_eq {acc new : List Variant} (hacc : SemDistinct acc) (hnew : SemDistinct new) :
    merge acc new = acc.map (counterpart new) ++ new.filter (unmatched acc) := by
  induction new generalizing acc with
  | nil => simp [merge, funext counterpart_nil]
  | cons s new ih =>
    obtain ⟨hs, hnew⟩ := List.nodup_cons.mp hnew
    have hdiff : ∀ y ∈ new, y.sem ≠ s.sem := fun y hy he => hs (he ▸ List.mem_map_of_mem hy)
    have hkeep : counterpart new s = s :=
      counterpart_of_forall fun y hy => (semEq_eq_false_iff s y).mpr (hdiff y hy).symm
    have hover (x : Variant) : counterpart new (counterpart [s] x) = counterpart (s :: new) x := by
      rw [counterpart_cons, counterpart_cons, counterpart_nil, apply_ite (counterpart new), hkeep]
    have hfresh : ∀ y ∈ new, unmatched (mergeOne acc s) y = unmatched acc y := fun y hy => by
      rw [Bool.eq_iff_iff, unmatched_iff, unmatched_iff, map_sem_mergeOne, List.mem_append]
      split <;> simp [hdiff y hy]
    have hlast : ([s].filter (unmatched acc)).map (counterpart new) = [s].filter (unmatched acc) := by
      cases h : unmatched acc s <;> simp [h, hkeep]
    calc merge acc (s :: new)
        = merge (mergeOne acc s) new := rfl
      _ = (mergeOne acc s).map (counterpart new) ++ new.filter (unmatched (mergeOne acc s)) :=
          ih (hacc.mergeOne s) hnew
      _ = acc.map (counterpart (s :: new)) ++ [s].filter (unmatched acc) ++ new.filter (unmatched acc) := by
          rw [List.filter_congr hfresh, mergeOne_eq hacc, List.map_append, List.map_map, hlast]
          simp only [Function.comp_def, hover]
      _ = acc.map (counterpart (s :: new)) ++ (s :: new).filter (unmatched acc) := by
          rw [List.append_assoc, ← List.filter_append, List.singleton_append]

/-- The classes of the accumulator stay in their places. -/
theorem map_sem_prefix_merge (acc new : List Variant) : acc.map Variant.sem <+: (merge acc new).map Variant.sem := by
  unfold merge
  induction new generalizing acc with
  | nil => exact List.prefix_rfl
  | cons s new ih => exact (map_sem_mergeOne acc s ▸ List.prefix_append _ _).trans (ih _)

theorem SemDistinct.merge {acc : List Variant} (h : SemDistinct acc) (new : List Variant) :
    SemDistinct (merge acc new) := by
  unfold Sys2Proof.merge
  induction new generalizing acc with
  | nil => exact h
  | cons s new ih => exact ih (h.mergeOne s)

/-- Where every entry has a counterpart, the merge holds exactly the new entries. -/
theorem merge_perm {acc new : List Variant} (hacc : SemDistinct acc) (hnew : SemDistinct new)
    (hpred : ∀ x ∈ acc, ∃ y ∈ new, semEq x y = true) : (merge acc new).Perm new := by
  refine (List.perm_ext_iff_of_nodup (hacc.merge new).nodup hnew.nodup).mpr fun y => ?_
  rw [merge_eq hacc hnew, List.mem_append, List.mem_map, List.mem_filter]
  constructor
  · rintro (⟨x, hx, rfl⟩ | ⟨hy, -⟩)
    · exact (counterpart_spec (hpred x hx)).1
    · exact hy
  · intro hy
    cases hun : unmatched acc y with
    | true => exact .inr ⟨hy, rfl⟩
    | false =>
      obtain ⟨x, hx, hxy⟩ : ∃ x ∈ acc, semEq x y = true := by simpa [unmatched] using hun
      obtain ⟨hmem, heq⟩ := counterpart_spec ⟨y, hy, hxy⟩
      refine .inl ⟨x, hx, hnew.eq_of_semEq hmem hy ?_⟩
      rw [semEq_iff_sem] at hxy heq ⊢
      exact heq.symm.trans hxy

/-- One version's enumeration is semantically distinct, because one version gives a family one source class, of which at
most one option is a register-only spelling (R138). -/
theorem semDistinct_enum {c : Caps} (hc : ∀ f, (c.get f).subs.length ≤ 256) (v : Version) : SemDistinct (enum c v) := by
  refine List.Nodup.map_on (fun x hx y hy hxy => ?_) (nodup_enum hc v)
  have hsrc := src_classCode_of_mem_enum hx
  obtain ⟨hfam, hsub, hflag1, hflag0, hdst, hmode⟩ := (semEq_iff x y).mp ((semEq_iff_sem x y).mpr hxy)
  rw [hfam, ← src_classCode_of_mem_enum hy] at hsrc
  have hmode : x.src0 = y.src0 := by
    obtain h | ⟨hx0, hy0⟩ | ⟨hx0, hy0⟩ := hmode
    · exact h
    all_goals
      rw [hx0, hy0] at hsrc
      exact absurd hsrc (by decide)
  cases x; cases y
  simp_all

/-! ## One version of the fold (R126 to R129) -/

theorem foldFirst_eq (c : Caps) (v : Version) : foldFirst c v = .ok (enum c v) := if_pos (length_enum c v)

theorem predecessorsOk_iff {acc new : List Variant} :
    predecessorsOk acc new = true ↔ ∀ x ∈ acc, ∃ y ∈ new, semEq x y = true := by
  simp [predecessorsOk]

theorem foldVersion_of_lacks {c : Caps} {v : Version} {acc : List Variant}
    (h : ∃ x ∈ acc, ∀ y ∈ enum c v, semEq x y = false) : foldVersion c acc v = .error .missingPredecessor := by
  refine if_neg fun hok => ?_
  obtain ⟨x, hx, hno⟩ := h
  obtain ⟨y, hy, hxy⟩ := predecessorsOk_iff.mp hok x hx
  rw [hno y hy] at hxy
  cases hxy

/-- Past the predecessor check the density check cannot fail: the merge is a rearrangement of the enumeration (R138). -/
theorem foldVersion_of_predecessors {c : Caps} (hc : ∀ f, (c.get f).subs.length ≤ 256) {v : Version}
    {acc : List Variant} (hacc : SemDistinct acc) (h : ∀ x ∈ acc, ∃ y ∈ enum c v, semEq x y = true) :
    foldVersion c acc v = .ok (merge acc (enum c v)) := by
  have hlen := (merge_perm hacc (semDistinct_enum hc v) h).length_eq.trans (length_enum c v)
  exact (if_pos (predecessorsOk_iff.mpr h)).trans (if_pos hlen)

/-! ## The fold up to a version (R130) -/

/-- The loop takes in the registry versions up to CFG_VERSION, in their order. -/
theorem foldLater_eq_foldlM (c : Caps) (v : Version) (acc : List Variant) (vs : List Version) :
    foldLater c v acc vs = (vs.takeWhile (· ≤ v)).foldlM (foldVersion c) acc := by
  induction vs generalizing acc with
  | nil => rfl
  | cons w vs ih =>
    by_cases hw : w ≤ v
    · rw [foldLater, if_pos hw, List.takeWhile_cons, decide_eq_true hw, if_pos rfl, List.foldlM_cons]
      cases foldVersion c acc w with
      | ok acc' => exact ih acc'
      | error e => rfl
    · rw [foldLater, if_neg hw, List.takeWhile_cons, decide_eq_false hw]
      rfl

theorem accumulatorAt_eq_foldlM (cfg : Configuration) (v : Version) :
    accumulatorAt cfg v = ((cfg.versions.drop 1).takeWhile (· ≤ v)).foldlM (foldVersion cfg.caps)
      (enum cfg.caps (earliest cfg)) := by
  rw [accumulatorAt, foldFirst_eq]
  exact foldLater_eq_foldlM ..

/-- The fold up to a later version goes on from the fold up to an earlier one. -/
theorem accumulatorAt_of_le (cfg : Configuration) {u v : Version} (h : u ≤ v) :
    ∃ vs : List Version, accumulatorAt cfg v = accumulatorAt cfg u >>= fun acc => vs.foldlM (foldVersion cfg.caps) acc := by
  have hpre : (cfg.versions.drop 1).takeWhile (· ≤ u) <+: (cfg.versions.drop 1).takeWhile (· ≤ v) := by
    have := List.takeWhile_prefix (p := (· ≤ u)) (l := (cfg.versions.drop 1).takeWhile (· ≤ v))
    rw [List.takeWhile_takeWhile] at this
    convert this using 3
    simpa using fun hw => BitVec.le_trans hw h
  obtain ⟨vs, hvs⟩ := hpre
  refine ⟨vs, ?_⟩
  rw [accumulatorAt_eq_foldlM, accumulatorAt_eq_foldlM, ← hvs, List.foldlM_append]

theorem accumulatorAt_error_of_le {cfg : Configuration} {u v : Version} (h : u ≤ v) {e : BuildFault}
    (he : accumulatorAt cfg u = .error e) : accumulatorAt cfg v = .error e := by
  obtain ⟨vs, hvs⟩ := accumulatorAt_of_le cfg h
  rw [hvs, he]
  rfl

/-- In an ascending registry the versions up to `u` are those that stand up to `u`. -/
theorem takeWhile_le_of_ascending {pre post : List Version} {u : Version}
    (hinc : (pre ++ u :: post).Pairwise (· < ·)) : (pre ++ u :: post).takeWhile (· ≤ u) = pre ++ [u] := by
  obtain ⟨-, hpost, hpre⟩ := List.pairwise_append.mp hinc
  obtain ⟨hpost, -⟩ := List.pairwise_cons.mp hpost
  rw [List.takeWhile_append_of_pos fun w hw =>
      decide_eq_true (BitVec.le_of_lt (hpre w hw u List.mem_cons_self)),
    List.takeWhile_cons, decide_eq_true (BitVec.le_refl u), if_pos rfl]
  cases post with
  | nil => rfl
  | cons w post =>
    rw [List.takeWhile_cons, decide_eq_false (BitVec.not_le.mpr (hpost w List.mem_cons_self))]
    rfl

section registry

variable {cfg : Configuration} (hinc : cfg.versions.Pairwise (· < ·)) {pre post : List Version}
include hinc

theorem accumulatorAt_of_split {u : Version} (hs : cfg.versions = pre ++ u :: post) :
    accumulatorAt cfg u = ((pre ++ [u]).drop 1).foldlM (foldVersion cfg.caps) (enum cfg.caps (earliest cfg)) := by
  have htail : (cfg.versions.drop 1).takeWhile (· ≤ u) = (pre ++ [u]).drop 1 := by
    rw [hs] at hinc ⊢
    cases pre with
    | nil =>
      cases post with
      | nil => rfl
      | cons w post =>
        have hw := (List.pairwise_cons.mp hinc).1 w List.mem_cons_self
        exact List.takeWhile_cons_of_neg (by simpa using BitVec.not_le.mpr hw)
    | cons p pre => exact takeWhile_le_of_ascending (List.pairwise_cons.mp hinc).2
  rw [accumulatorAt_eq_foldlM, htail]

/-- At the earliest version the accumulator is its enumeration (R126). -/
theorem accumulatorAt_head {v : Version} (hv : cfg.versions.head? = some v) :
    accumulatorAt cfg v = .ok (enum cfg.caps v) := by
  obtain ⟨vs, hvs⟩ := List.head?_eq_some_iff.mp hv
  rw [accumulatorAt_of_split hinc (pre := []) hvs, show earliest cfg = v by simp [earliest, hvs]]
  rfl

/-- Each later registry version is one more turn of the loop. -/
theorem accumulatorAt_succ {u v : Version} (hs : cfg.versions = pre ++ u :: v :: post) :
    accumulatorAt cfg v = accumulatorAt cfg u >>= fun acc => foldVersion cfg.caps acc v := by
  have hs' : cfg.versions = (pre ++ [u]) ++ v :: post := by rw [hs, List.append_assoc]; rfl
  rw [accumulatorAt_of_split hinc hs', accumulatorAt_of_split hinc hs,
    List.drop_append_of_le_length (l₁ := pre ++ [u]) (by simp), List.foldlM_append]
  simp only [List.foldlM_cons, List.foldlM_nil, bind_pure]

end registry

end Sys2Proof
end

section
/-! PROOFS. The build as a whole (spec/41_synthesis.md R121, R122, R130 to R138): the fault it ends with, and the laws of the
tables it leaves. -/

namespace Sys2Proof

open Machine (Validated LacksPredecessor HoldsDerived)

/-! ## VALIDATE (R122) -/

theorem hasDuplicate_eq_false_iff (l : List Ident) : hasDuplicate l = false ↔ l.Nodup := by
  induction l with
  | nil => simp [hasDuplicate]
  | cons x xs ih => simp [hasDuplicate, ih]

/-- The names are listed without a duplicate exactly if no two families share one. -/
theorem hasDuplicate_names_iff (c : Caps) :
    hasDuplicate (Family.all.map fun f => (c.get f).name) = false
      ↔ ∀ f g : Family, f ≠ g → (c.get f).name ≠ (c.get g).name := by
  have hall : Family.all.Nodup := by decide
  rw [hasDuplicate_eq_false_iff, List.nodup_map_iff_inj_on hall]
  simp only [Family.mem_all, true_implies, ne_eq, not_imp_not]

theorem illegalAt_iff (c : Caps) (u : Version) :
    illegalAt c u = true ↔ ∃ f, (c.get f).famMin ≤ u ∧ (c.get f).dstClass u = .regOrImm16 := by
  simp [illegalAt, Family.mem_all]

section validate

variable {cfg : Configuration} {v : Version}

theorem validate_of_shared_name (h : ∃ f g : Family, f ≠ g ∧ (cfg.caps.get f).name = (cfg.caps.get g).name) :
    validate cfg v = some .dupFamilyName := by
  refine if_pos (Bool.not_eq_false _ ▸ fun hno => ?_)
  obtain ⟨f, g, hfg, hname⟩ := h
  exact (hasDuplicate_names_iff _).mp hno f g hfg hname

variable (hnames : ∀ f g : Family, f ≠ g → (cfg.caps.get f).name ≠ (cfg.caps.get g).name)
include hnames

theorem validate_of_unknown (hv : v ∉ cfg.versions) : validate cfg v = some .unknownVersion := by
  simp [validate, (hasDuplicate_names_iff _).mpr hnames, hv]

theorem validate_of_known (hv : v ∈ cfg.versions) :
    validate cfg v = if cfg.versions.any fun u => decide (u ≤ v) && illegalAt cfg.caps u then some .illegalDescriptor
      else none := by
  simp [validate, (hasDuplicate_names_iff _).mpr hnames, hv]

theorem validate_of_illegal (hv : v ∈ cfg.versions)
    (h : ∃ u ∈ cfg.versions, u ≤ v ∧ ∃ f, (cfg.caps.get f).famMin ≤ u ∧ (cfg.caps.get f).dstClass u = .regOrImm16) :
    validate cfg v = some .illegalDescriptor := by
  rw [validate_of_known hnames hv, if_pos (by simpa [illegalAt_iff] using h)]

theorem validate_of_legal (hv : v ∈ cfg.versions)
    (h : ∀ u ∈ cfg.versions, u ≤ v → ∀ f, (cfg.caps.get f).famMin ≤ u → (cfg.caps.get f).dstClass u ≠ .regOrImm16) :
    validate cfg v = none := by
  rw [validate_of_known hnames hv, if_neg (by simpa [illegalAt_iff] using h)]

end validate

theorem validate_of_validated {cfg : Configuration} {v : Version} (h : Validated cfg v) : validate cfg v = none :=
  validate_of_legal h.names h.known h.classes

theorem validate_some {cfg : Configuration} {v : Version} {e : BuildFault} (h : validate cfg v = some e) :
    e = .dupFamilyName ∨ e = .unknownVersion ∨ e = .illegalDescriptor := by
  unfold validate at h
  split_ifs at h <;> cases h <;> simp

theorem mem_versions_of_validate {cfg : Configuration} {v : Version} (h : validate cfg v = none) :
    v ∈ cfg.versions := by
  unfold validate at h
  split at h
  · cases h
  · split at h
    · cases h
    · rename_i hv
      simpa using hv

theorem build_of_validate_fault {cfg : Configuration} {v : Version} {e : BuildFault} (h : validate cfg v = some e) :
    build cfg v = .error e := by
  rw [build, h]

theorem build_of_validate_none {cfg : Configuration} {v : Version} (h : validate cfg v = none) :
    build cfg v = match accumulatorAt cfg v with
      | .error e => .error e
      | .ok acc => finishBuild cfg v acc := by
  rw [build, h]
  exact enumerateAndFold_eq cfg v

/-! ## The faults after VALIDATE (R127 to R135) -/

theorem foldVersion_error {c : Caps} {acc : List Variant} {v : Version} {e : BuildFault}
    (h : foldVersion c acc v = .error e) : e = .missingPredecessor ∨ e = .densityMismatch := by
  simp only [foldVersion] at h
  split at h
  · split at h
    · cases h
    · cases h; exact .inr rfl
  · cases h; exact .inl rfl

theorem foldlM_foldVersion_error {c : Caps} {acc : List Variant} {vs : List Version} {e : BuildFault}
    (h : vs.foldlM (foldVersion c) acc = .error e) : e = .missingPredecessor ∨ e = .densityMismatch := by
  induction vs generalizing acc with
  | nil => cases h
  | cons w vs ih =>
    rw [List.foldlM_cons] at h
    cases hw : foldVersion c acc w with
    | error e' => rw [hw] at h; cases h; exact foldVersion_error hw
    | ok acc' => rw [hw] at h; exact ih h

theorem accumulatorAt_error {cfg : Configuration} {v : Version} {e : BuildFault}
    (h : accumulatorAt cfg v = .error e) : e = .missingPredecessor ∨ e = .densityMismatch :=
  foldlM_foldVersion_error (accumulatorAt_eq_foldlM cfg v ▸ h)

theorem deriveWord_error {t : List Variant} {x : Option DecodedInstr} {e : BuildFault}
    (h : deriveWord t x = .error e) : e = .derivedConstMiss := by
  unfold deriveWord at h
  split at h
  · cases h; rfl
  · split at h
    · cases h
    · cases h; rfl

/-- The final checks have three faults (R131, R132, R135). -/
theorem finishBuild_error {cfg : Configuration} {v : Version} {acc : List Variant} {e : BuildFault}
    (h : finishBuild cfg v acc = .error e) : e = .slot0NotInvalid ∨ e = .tableOverflow ∨ e = .derivedConstMiss := by
  unfold finishBuild at h
  split at h
  · cases h; exact .inl rfl
  · split at h
    · cases h; exact .inr (.inl rfl)
    · simp only at h
      split at h
      · rename_i hw1
        cases h; exact .inr (.inr (deriveWord_error hw1))
      · split at h
        · rename_i hw2
          cases h; exact .inr (.inr (deriveWord_error hw2))
        · cases h

/-- Past VALIDATE the build has five faults left (R211). -/
theorem build_error_of_validate_none {cfg : Configuration} {v : Version} {e : BuildFault}
    (hv : validate cfg v = none) (h : build cfg v = .error e) :
    (accumulatorAt cfg v = .error e ∧ (e = .missingPredecessor ∨ e = .densityMismatch))
      ∨ e = .slot0NotInvalid ∨ e = .tableOverflow ∨ e = .derivedConstMiss := by
  rw [build_of_validate_none hv] at h
  cases ha : accumulatorAt cfg v with
  | error e' => rw [ha] at h; cases h; exact .inl ⟨rfl, accumulatorAt_error ha⟩
  | ok acc => rw [ha] at h; exact .inr (finishBuild_error h)

/-- Settles O35: VALIDATE's three answers in their order, none of which a later step gives. -/
theorem validationFaultsInOrder : Obligations.ValidationFaultsInOrder := by
  intro cfg v
  refine ⟨fun h => build_of_validate_fault (validate_of_shared_name h),
    fun hnames hv => build_of_validate_fault (validate_of_unknown hnames hv),
    fun hnames hv h => build_of_validate_fault (validate_of_illegal hnames hv h), fun hnames hv h => ?_⟩
  have hnone := validate_of_legal hnames hv h
  refine ⟨fun he => ?_, fun he => ?_, fun he => ?_⟩ <;>
    simpa using build_error_of_validate_none hnone he

/-! ## What the fold keeps within the premises (R137, R138) -/

section premises

variable {cfg : Configuration} (hwf : cfg.wf = true)
include hwf

theorem versions_ascending : cfg.versions.Pairwise (· < ·) := ((Configuration.wf_iff cfg).mp hwf).2.1

theorem subs_length_le (f : Family) : (cfg.caps.get f).subs.length ≤ 256 :=
  (((Configuration.wf_iff cfg).mp hwf).2.2.1 f).2

/-- A missing predecessor at a registry version ends every build that reaches it. -/
theorem accumulatorAt_of_lacks {v : Version} (h : LacksPredecessor cfg v) :
    accumulatorAt cfg v = .error .missingPredecessor := by
  obtain ⟨pre, u, w, post, a, hs, hwv, ha, hx⟩ := h
  refine accumulatorAt_error_of_le hwv ?_
  rw [accumulatorAt_succ (versions_ascending hwf) hs, ha]
  exact foldVersion_of_lacks hx

/-- At every registry version the fold has found a missing predecessor, or the accumulator is a rearrangement of that
version's enumeration. By induction on the versions before. -/
theorem accumulatorAt_cases_of_split {pre post : List Version} {u : Version} (hs : cfg.versions = pre ++ u :: post) :
    LacksPredecessor cfg u ∨ ∃ acc, accumulatorAt cfg u = .ok acc ∧ acc.Perm (enum cfg.caps u) := by
  have hinc := versions_ascending hwf
  induction pre using List.reverseRecOn generalizing u post with
  | nil => exact .inr ⟨_, accumulatorAt_head hinc (by rw [hs]; rfl), .refl _⟩
  | append_singleton pre w ih =>
    have hs' : cfg.versions = pre ++ w :: u :: post := by rw [hs, List.append_assoc]; rfl
    have hwu : w < u := by
      rw [hs] at hinc
      exact (List.pairwise_append.mp hinc).2.2 w (by simp) u List.mem_cons_self
    obtain ⟨pre', u', w', post', a, hs'', hle, ha⟩ | ⟨acc, hacc, hperm⟩ := ih hs'
    · exact .inl ⟨pre', u', w', post', a, hs'', BitVec.le_trans hle (BitVec.le_of_lt hwu), ha⟩
    · by_cases hpred : ∀ x ∈ acc, ∃ y ∈ enum cfg.caps u, semEq x y = true
      · have hdist := (semDistinct_enum (subs_length_le hwf) w).perm hperm
        refine .inr ⟨merge acc (enum cfg.caps u), ?_, merge_perm hdist (semDistinct_enum (subs_length_le hwf) u) hpred⟩
        rw [accumulatorAt_succ hinc hs', hacc]
        exact foldVersion_of_predecessors (subs_length_le hwf) hdist hpred
      · exact .inl ⟨pre, w, u, post, acc, hs', BitVec.le_refl u, hacc, by simpa using hpred⟩

theorem accumulatorAt_cases {v : Version} (hv : v ∈ cfg.versions) :
    LacksPredecessor cfg v ∨ ∃ acc, accumulatorAt cfg v = .ok acc ∧ acc.Perm (enum cfg.caps v) := by
  obtain ⟨pre, post, hs⟩ := List.append_of_mem hv
  exact accumulatorAt_cases_of_split hwf hs

theorem semDistinct_accumulatorAt {v : Version} (hv : v ∈ cfg.versions) {acc : List Variant}
    (h : accumulatorAt cfg v = .ok acc) : SemDistinct acc := by
  obtain hlacks | ⟨acc', hacc', hperm⟩ := accumulatorAt_cases hwf hv
  · cases (accumulatorAt_of_lacks hwf hlacks).symm.trans h
  · cases hacc'.symm.trans h
    exact (semDistinct_enum (subs_length_le hwf) v).perm hperm

end premises

/-- Settles O43: the closed form of the merge, one turn of the loop at a time. -/
theorem laterVersionsAreMergedInOrder : Obligations.LaterVersionsAreMergedInOrder := by
  intro cfg hwf
  have hinc := versions_ascending hwf
  have hsubs := subs_length_le hwf
  refine ⟨fun v hv => accumulatorAt_head hinc hv, fun pre post u v hs => ⟨fun e he => ?_, fun a ha => ?_⟩⟩
  · rw [accumulatorAt_succ hinc hs, he]
    rfl
  · have hstep : accumulatorAt cfg v = foldVersion cfg.caps a v := by
      rw [accumulatorAt_succ hinc hs, ha]
      rfl
    have hdist : SemDistinct a := semDistinct_accumulatorAt hwf (by simp [hs]) ha
    have hnew := semDistinct_enum hsubs v
    rw [hstep]
    refine ⟨foldVersion_of_lacks, fun hpred => ⟨_, foldVersion_of_predecessors hsubs hdist hpred, ?_, ?_, ?_⟩⟩
    · exact (merge_perm hdist hnew hpred).length_eq.trans (length_enum _ v)
    · intro i x hx
      obtain ⟨hmem, heq⟩ := counterpart_spec (hpred x (List.mem_of_getElem? hx))
      refine ⟨counterpart (enum cfg.caps v) x, hmem, ?_, heq⟩
      have hi : i < a.length := (List.getElem?_eq_some_iff.mp hx).1
      rw [merge_eq hdist hnew, List.getElem?_append_left (by simpa using hi), List.getElem?_map, hx, Option.map_some]
    · rw [merge_eq hdist hnew, List.drop_left' (List.length_map _)]
      rfl

/-! ## The laws of a built table (R130, R137, R138) -/

/-- A slot below COUNT holds the accumulator's entry (R133). -/
theorem padTable_getD {acc : List Variant} {i : Nat} (h : i < acc.length) :
    (padTable acc).getD i invalidV = acc[i] := by
  rw [padTable, List.getD_eq_getElem?_getD, List.getElem?_append_left h, List.getElem?_eq_getElem h, Option.getD_some]

/-- Settles O39: the accumulator is semantically distinct, and the fold has no fault but a missing predecessor. -/
theorem synthesizedEntriesAreDistinct : Obligations.SynthesizedEntriesAreDistinct := by
  refine fun cfg v hwf => ⟨fun T hT i j hij hj => ?_, fun he => ?_⟩
  · obtain ⟨hval, -⟩ := build_ok hT
    obtain ⟨acc, hacc, -, -, htable, hcount⟩ := build_ok_accumulator hT
    have hdist := semDistinct_accumulatorAt hwf (mem_versions_of_validate hval) hacc
    rw [hcount] at hj
    have hi := hij.trans hj
    have hsem : acc[i].sem ≠ acc[j].sem := by
      have := List.pairwise_map.mp hdist
      exact List.pairwise_iff_getElem.mp this i j hi hj hij
    rw [htable, padTable_getD hi, padTable_getD hj, semEq_eq_false_iff]
    exact ⟨fun h => hsem (congrArg _ h), hsem⟩
  · cases hval : validate cfg v with
    | some e =>
      cases (build_of_validate_fault hval).symm.trans he
      simpa using validate_some hval
    | none =>
      obtain ⟨hacc, -⟩ | h | h | h := build_error_of_validate_none hval he
      · obtain hlacks | ⟨acc, hok, -⟩ := accumulatorAt_cases hwf (mem_versions_of_validate hval)
        · cases (accumulatorAt_of_lacks hwf hlacks).symm.trans hacc
        · cases hok.symm.trans hacc
      all_goals cases h

theorem map_sem_prefix_foldlM {c : Caps} {acc acc' : List Variant} {vs : List Version}
    (h : vs.foldlM (foldVersion c) acc = .ok acc') : acc.map Variant.sem <+: acc'.map Variant.sem := by
  induction vs generalizing acc with
  | nil => cases h; exact List.prefix_rfl
  | cons w vs ih =>
    rw [List.foldlM_cons] at h
    cases hw : foldVersion c acc w with
    | error e => rw [hw] at h; cases h
    | ok a =>
      rw [hw] at h
      exact (foldVersion_ok hw ▸ map_sem_prefix_merge acc (enum c w)).trans (ih h)

/-- The accumulator of a later version extends that of an earlier one, class by class (R137). -/
theorem map_sem_prefix_accumulatorAt {cfg : Configuration} {u v : Version} (h : u ≤ v) {a b : List Variant}
    (ha : accumulatorAt cfg u = .ok a) (hb : accumulatorAt cfg v = .ok b) :
    a.map Variant.sem <+: b.map Variant.sem := by
  obtain ⟨vs, hvs⟩ := accumulatorAt_of_le cfg h
  rw [hb, ha] at hvs
  exact map_sem_prefix_foldlM hvs.symm

/-- Settles O40, from the classes of the two accumulators. -/
theorem indicesAreStableAcrossVersions : Obligations.IndicesAreStableAcrossVersions := by
  intro cfg v0 v1 T0 T1 _ hlt h0 h1
  obtain ⟨a, ha, -, -, htable0, hcount0⟩ := build_ok_accumulator h0
  obtain ⟨b, hb, -, -, htable1, hcount1⟩ := build_ok_accumulator h1
  have hpre := map_sem_prefix_accumulatorAt (BitVec.le_of_lt hlt) ha hb
  have hlen : a.length ≤ b.length := by simpa using hpre.length_le
  refine ⟨BitVec.le_def.mpr (by rwa [hcount0, hcount1]), fun i hi => ?_⟩
  rw [hcount0] at hi
  rw [htable0, htable1, padTable_getD hi, padTable_getD (hi.trans_le hlen), semEq_iff_sem]
  have hget := hpre.getElem (i := i) (by simpa using hi)
  rwa [List.getElem_map, List.getElem_map] at hget

/-- In an ascending registry the versions up to `v` are an initial part. -/
theorem filter_le_eq_takeWhile {vs : List Version} (hinc : vs.Pairwise (· < ·)) (v : Version) :
    vs.filter (fun u => decide (u ≤ v)) = vs.takeWhile (· ≤ v) := by
  induction vs with
  | nil => rfl
  | cons w vs ih =>
    obtain ⟨hw, hvs⟩ := List.pairwise_cons.mp hinc
    by_cases hwv : w ≤ v
    · simp [hwv, ih hvs]
    · have hnone : ∀ u ∈ vs, ¬ u ≤ v := fun u hu huv => hwv (BitVec.le_trans (BitVec.le_of_lt (hw u hu)) huv)
      simpa [hwv] using hnone

/-- VALIDATE looks at no version above CFG_VERSION (R122). -/
theorem validate_cut (cfg : Configuration) (v : Version) :
    validate { cfg with versions := cfg.versions.filter (fun u => decide (u ≤ v)) } v = validate cfg v := by
  have hmem : (cfg.versions.filter (fun u => decide (u ≤ v))).contains v = cfg.versions.contains v := by
    simp
  simp only [validate, hmem, List.any_filter, ← Bool.and_assoc, Bool.and_self]

/-- The fold takes in no version above CFG_VERSION (R130). -/
theorem accumulatorAt_cut {cfg : Configuration} (hinc : cfg.versions.Pairwise (· < ·)) {v : Version}
    (hv : v ∈ cfg.versions) :
    accumulatorAt { cfg with versions := cfg.versions.filter (fun u => decide (u ≤ v)) } v = accumulatorAt cfg v := by
  obtain ⟨w, vs, hvs⟩ := List.exists_cons_of_ne_nil (List.ne_nil_of_mem hv)
  have hwv : w ≤ v := by
    rw [hvs] at hinc hv
    obtain rfl | hmem := List.mem_cons.mp hv
    · exact BitVec.le_refl _
    · exact BitVec.le_of_lt ((List.pairwise_cons.mp hinc).1 v hmem)
  have hcut : cfg.versions.filter (fun u => decide (u ≤ v)) = w :: vs.takeWhile (· ≤ v) := by
    rw [filter_le_eq_takeWhile hinc, hvs, List.takeWhile_cons, decide_eq_true hwv, if_pos rfl]
  rw [hcut, accumulatorAt_eq_foldlM, accumulatorAt_eq_foldlM, hvs]
  simp [earliest, hvs, List.takeWhile_takeWhile]

/-- Settles O41: neither VALIDATE nor the fold looks above CFG_VERSION, and the final checks read no registry. -/
theorem laterVersionsHaveNoPart : Obligations.LaterVersionsHaveNoPart := by
  intro cfg v hwf
  cases hval : validate cfg v with
  | some e => rw [build_of_validate_fault hval, build_of_validate_fault ((validate_cut cfg v).trans hval)]
  | none =>
    rw [build_of_validate_none hval, build_of_validate_none ((validate_cut cfg v).trans hval),
      accumulatorAt_cut (versions_ascending hwf) (mem_versions_of_validate hval)]
    rfl

/-! ## The final checks (R131 to R135) -/

theorem cam_eq_none_iff {t : List Variant} (h : t.length = tableLen) {key : Variant} : cam t key = none ↔ key ∉ t := by
  rw [cam_eq_findIdx h, Option.map_eq_none_iff, List.findIdx?_eq_none_iff]
  simp only [beq_eq_false_iff_ne, ne_eq]
  exact ⟨fun hno hmem => hno key hmem rfl, fun hno x hx he => hno (he ▸ hx)⟩

theorem mem_padTable {acc : List Variant} {x : Variant} (h : x ≠ invalidV) : x ∈ padTable acc ↔ x ∈ acc := by
  simp [padTable, List.mem_replicate, h]

/-- The instruction of a derived constant exists where the destination class has an option; COND_ALWAYS and the zero
operands are in range (R175). -/
theorem derivedInstr_cases (cfg : Configuration) (v : Version) (acc : List Variant) (f : Family) (s : SubIdx) :
    (derivedInstr cfg v f s = none ∧ ¬ HoldsDerived cfg v acc f s)
      ∨ ∃ x, derivedInstr cfg v f s = some x ∧ x.inRange = true ∧ x.variant.fam = f
        ∧ (HoldsDerived cfg v acc f s ↔ x.variant ∈ acc) := by
  unfold derivedInstr HoldsDerived
  cases hd : ((cfg.caps.get f).dstClass v).dstFirst with
  | none => exact .inl ⟨rfl, by simp⟩
  | some d => exact .inr ⟨_, rfl, by simp [DecodedInstr.inRange, cfg.condAlways.isLt], rfl, by simp⟩

section derive

variable {cfg : Configuration} {v : Version} {acc : List Variant} (hlen : acc.length ≤ tableLen) {f : Family}
  (hf : f ≠ .invalid) {s : SubIdx}
include hlen hf

/-- The only way to miss a derived constant is the lookup (R135), which finds what the accumulator holds. -/
theorem deriveWord_of_holds (h : HoldsDerived cfg v acc f s) :
    ∃ w, deriveWord (padTable acc) (derivedInstr cfg v f s) = .ok w := by
  obtain ⟨-, hno⟩ | ⟨x, hx, hrange, hfam, hiff⟩ := derivedInstr_cases cfg v acc f s
  · exact absurd h hno
  have hmem := (mem_padTable fun he => hf (hfam ▸ congrArg Variant.fam he)).mpr (hiff.mp h)
  rw [hx, deriveWord]
  obtain ⟨hmiss, -⟩ | ⟨i, -, hout, -⟩ | ⟨i, -, -, hok⟩ := encCore_cases (padTable acc) x
  · exact absurd hmem ((cam_eq_none_iff (padTable_length hlen)).mp hmiss)
  · cases hrange.symm.trans hout
  · exact ⟨_, by rw [hok]⟩

theorem deriveWord_of_not_holds (h : ¬ HoldsDerived cfg v acc f s) :
    deriveWord (padTable acc) (derivedInstr cfg v f s) = .error .derivedConstMiss := by
  obtain ⟨hnone, -⟩ | ⟨x, hx, -, hfam, hiff⟩ := derivedInstr_cases cfg v acc f s
  · rw [hnone, deriveWord]
  have hmiss : cam (padTable acc) x.variant = none := by
    rw [cam_eq_none_iff (padTable_length hlen), mem_padTable fun he => hf (hfam ▸ congrArg Variant.fam he), ← hiff]
    exact h
  rw [hx, deriveWord, encCore, hmiss]

end derive

section finishBuild

variable {cfg : Configuration} {v : Version} {acc : List Variant}

theorem finishBuild_slot0 (h : acc.head? ≠ some invalidV) : finishBuild cfg v acc = .error .slot0NotInvalid :=
  if_pos h

theorem finishBuild_overflow (hhead : acc.head? = some invalidV) (hlen : tableLen < acc.length) :
    finishBuild cfg v acc = .error .tableOverflow := by
  rw [finishBuild, if_neg (not_not.mpr hhead), if_pos hlen]

variable (hhead : acc.head? = some invalidV) (hlen : acc.length ≤ tableLen)
include hhead hlen

theorem finishBuild_miss
    (h : ¬ HoldsDerived cfg v acc .nop 0 ∨ ¬ HoldsDerived cfg v acc .ret cfg.panicSub) :
    finishBuild cfg v acc = .error .derivedConstMiss := by
  by_cases hnop : HoldsDerived cfg v acc .nop 0
  · obtain ⟨w1, hw1⟩ : ∃ w, deriveWord (padTable acc) (nopInstr cfg v) = .ok w :=
      deriveWord_of_holds hlen (by decide) hnop
    have hw2 : deriveWord (padTable acc) (panicInstr cfg v) = .error .derivedConstMiss :=
      deriveWord_of_not_holds hlen (by decide) (h.resolve_left (not_not.mpr hnop))
    simp [finishBuild, hhead, not_lt.mpr hlen, hw1, hw2]
  · have hw1 : deriveWord (padTable acc) (nopInstr cfg v) = .error .derivedConstMiss :=
      deriveWord_of_not_holds hlen (by decide) hnop
    simp [finishBuild, hhead, not_lt.mpr hlen, hw1]

theorem finishBuild_holds (hnop : HoldsDerived cfg v acc .nop 0)
    (hpanic : HoldsDerived cfg v acc .ret cfg.panicSub) : ∃ T, finishBuild cfg v acc = .ok T := by
  obtain ⟨w1, hw1⟩ : ∃ w, deriveWord (padTable acc) (nopInstr cfg v) = .ok w :=
    deriveWord_of_holds hlen (by decide) hnop
  obtain ⟨w2, hw2⟩ : ∃ w, deriveWord (padTable acc) (panicInstr cfg v) = .ok w :=
    deriveWord_of_holds hlen (by decide) hpanic
  simp [finishBuild, hhead, not_lt.mpr hlen, hw1, hw2]

end finishBuild

/-- Settles O36: what the fold has found, and then the final checks one after the other. -/
theorem laterFaultsInOrder : Obligations.LaterFaultsInOrder := by
  intro cfg v hwf hval
  have hbuild := build_of_validate_none (validate_of_validated hval)
  refine ⟨fun hlacks => ?_, fun hno => ?_⟩
  · rw [hbuild, accumulatorAt_of_lacks hwf hlacks]
  · obtain ⟨acc, hacc, -⟩ := (accumulatorAt_cases hwf hval.known).resolve_left hno
    rw [hacc] at hbuild
    exact ⟨acc, hacc, fun h => hbuild.trans (finishBuild_slot0 h),
      fun h0 hlen => hbuild.trans (finishBuild_overflow h0 hlen),
      fun h0 hlen h => hbuild.trans (finishBuild_miss h0 hlen h),
      fun h0 hlen hnop hpanic => hbuild ▸ finishBuild_holds h0 hlen hnop hpanic⟩

end Sys2Proof
end

section
/-! PROOFS. Decoding (spec/42_decode.md): CANON, DECODE and READ_ENTRY in each value of STATE, the outputs of slot 0
and of the padding slots of a built table, and a bare codeword's answer. -/

namespace Sys2Proof

/-- `canonical(word)` as R150 spells it, by its two bits. -/
theorem canonical_eq_bits (w : Word) : canonical w = (!w.getLsbD 11 && !w.getLsbD 12) := by
  rw [Bool.eq_iff_iff, canonical_iff_bits]
  simp

/-- The select table of R153: every source mode is one of its rows. -/
theorem srcSel_mem_table (m : SrcMode) :
    (m.classCode.toNat, m.optCode.toNat, (srcSel m).toNat)
      ∈ [(0, 0, 0), (1, 0, 0), (1, 1, 1), (2, 0, 0), (2, 1, 2), (2, 2, 3), (2, 3, 4), (2, 4, 1), (2, 5, 5)] := by
  cases m <;> decide

/-- The select table of R154: every destination mode is one of its rows. -/
theorem dstSel_mem_table (m : DstMode) :
    (m.classCode.toNat, m.optCode.toNat, (dstSel m).toNat)
      ∈ [(0, 0, 0), (2, 0, 0), (2, 1, 1), (2, 2, 2), (2, 3, 3)] := by
  cases m <;> decide

theorem priceOf_invalidV (c : Caps) : priceOf c invalidV = 0xFFFFFFFF#32 := if_pos rfl

theorem toEntry_invalidV : invalidV.toEntry = 0 := by decide

end Sys2Proof

namespace Sys2Proof.Machine

open Sys2Proof

/-! ## What READY holds, seen from the slots (R39, R133, R134) -/

section built

variable {s : State} (hinv : s.Inv) (hr : s.resetIn = false) (hready : s.state = .ready)
include hinv hr hready

theorem State.Inv.readTable_zero : readTable s.table 0 = invalidV := by
  obtain ⟨-, -, -, -, hslot0, -⟩ := builtTablesHaveTheSpecifiedShape _ _ _ (hinv.ready hr hready)
  exact hslot0

theorem State.Inv.readTable_padding {i : Slot} (hi : s.count.toNat ≤ i.toNat) : readTable s.table i = invalidV := by
  obtain ⟨-, -, -, -, -, hpad, -⟩ := builtTablesHaveTheSpecifiedShape _ _ _ (hinv.ready hr hready)
  exact hpad i hi

theorem State.Inv.readPriceSlot_eq (i : Slot) : readPriceSlot s.price i = priceOf s.cfg.caps (readTable s.table i) := by
  obtain ⟨-, -, -, -, -, -, hprice, -⟩ := builtTablesHaveTheSpecifiedShape _ _ _ (hinv.ready hr hready)
  exact hprice i

/-- The ROM holds the sub-variant of the selected slot, and its record drives the attribute outputs (R102, R155). -/
theorem State.Inv.decodeOk_record (w : Word) :
    ∃ sd, (s.cfg.caps.get (readTable s.table (cutCodeword w).index).fam).subs[(readTable s.table
        (cutCodeword w).index).sub.toNat]? = some sd
      ∧ (s.decodeOk w).kernel = sd.kernel ∧ (s.decodeOk w).staticOk = sd.staticOk := by
  obtain ⟨sd, hsd⟩ := holds_readTable_of_build hinv.cfgOk (hinv.ready hr hready) (cutCodeword w).index
  exact ⟨sd, hsd, congrArg SubDesc.kernel (Caps.attrs_eq hsd), congrArg SubDesc.staticOk (Caps.attrs_eq hsd)⟩

/-- `MASKED_DECODE` of a built block, written out: word 0 selects slot 0, which holds INVALID_V (R152). -/
theorem State.Inv.maskedDecode_eq :
    s.maskedDecode =
      { zeroDecode with
        price := 0xFFFFFFFF#32
        kernel := (s.cfg.caps.attrs .invalid 0).kernel
        staticOk := (s.cfg.caps.attrs .invalid 0).staticOk
        nImm := BitVec.ofNat 2 s.cfg.caps.invalid.nImm.val
        nFlags := BitVec.ofNat 2 s.cfg.caps.invalid.nFlags.val } := by
  have hslot : readTable s.table (cutCodeword 0).index = invalidV := hinv.readTable_zero hr hready
  have hprice : readPriceSlot s.price (cutCodeword 0).index = 0xFFFFFFFF#32 := by
    rw [hinv.readPriceSlot_eq hr hready, hslot, priceOf_invalidV]
  rw [State.maskedDecode, State.decodeOk, hprice, hslot, toEntry_invalidV]
  rfl

/-- Family 0 has a first sub-variant, whose record drives the attributes of the masked answer (R25 (b), R152). -/
theorem State.Inv.maskedDecode_record :
    ∃ sd, s.cfg.caps.invalid.subs[0]? = some sd
      ∧ s.maskedDecode.kernel = sd.kernel ∧ s.maskedDecode.staticOk = sd.staticOk := by
  have hslot : readTable s.table (cutCodeword 0).index = invalidV := hinv.readTable_zero hr hready
  obtain ⟨sd, hsd, hattrs⟩ := hinv.decodeOk_record hr hready 0
  rw [hslot] at hsd
  exact ⟨sd, hsd, hattrs⟩

end built

/-! ## CANON and READ_ENTRY (R150, R157) -/

/-- Settles O3: `canonical` reads the two gap bits and no other. -/
theorem canonTellsTheGapBits : Obligations.CanonTellsTheGapBits := by
  intro s w
  refine ⟨exec_building rfl, exec_failed rfl, fun hready => ?_⟩
  rw [exec_ready _ hready, ownResponse, canonical_eq_bits]
  rfl

/-- Settles O6, from the layout of an ENTRY and the padding of a built table. -/
theorem readEntryAnswersTheSlot : Obligations.ReadEntryAnswersTheSlot := by
  intro s i
  obtain ⟨-, -, -, -, -, -, -, -, hreserved⟩ := (readTable s.table i).toEntry_fields
  refine ⟨exec_building rfl, exec_failed rfl, exec_ready _, hreserved, fun hinv hr hready hi => ?_⟩
  rw [hinv.readTable_padding hr hready hi, toEntry_invalidV]

/-! ## DECODE in READY (R151, R152) -/

section decode

variable {s : State} (hready : s.state = .ready) {w : Word}
include hready

theorem exec_decode_canonical (hw : w.extractLsb' 11 2 = 0) :
    exec (.decode w) s = .next (s.answer (.decode w) .ok (.decode (s.decodeOk w))) := by
  rw [exec_ready _ hready, ownResponse, decodeAnswer_canonical ((canonical_iff w).mpr hw)]

theorem exec_decode_noncanonical (hw : w.extractLsb' 11 2 ≠ 0) :
    exec (.decode w) s = .next (s.answer (.decode w) .noncanonical (.decode s.maskedDecode)) := by
  rw [exec_ready _ hready, ownResponse,
    decodeAnswer_noncanonical (Bool.eq_false_iff.mpr (mt (canonical_iff w).mp hw))]

/-- Word 0 is canonical, and its OK result is the masked one. -/
theorem exec_decode_zero : exec (.decode 0) s = .next (s.answer (.decode 0) .ok (.decode s.maskedDecode)) :=
  exec_decode_canonical hready rfl

end decode

/-- Settles O4: one clause per branch of the response order; the ROM holds the sub-variant of every slot of a built
table. -/
theorem decodeCutsTheWordAndSelectsTheSlot : Obligations.DecodeCutsTheWordAndSelectsTheSlot := by
  intro s w
  refine ⟨exec_building rfl, exec_failed rfl, fun hready hw => ?_, fun hready hw e he => ?_,
    fun hinv hr hready hw => ?_⟩
  · exact ⟨_, exec_decode_noncanonical hready hw, exec_decode_zero hready⟩
  · subst he
    exact ⟨_, exec_decode_canonical hready hw, rfl⟩
  · obtain ⟨sd, hsd, hattrs⟩ := hinv.decodeOk_record hr hready w
    exact ⟨_, sd, exec_decode_canonical hready hw, hsd, hattrs⟩

/-- Settles O5, from the masked result written out. -/
theorem noncanonicalWordDecodesMasked : Obligations.NoncanonicalWordDecodesMasked := by
  intro s w hinv hr hready hw
  have toNat_ofFin (n : Fin 3) : (BitVec.ofNat 2 n.val).toNat = n.val := by
    rw [BitVec.toNat_ofNat, Nat.mod_eq_of_lt (by omega)]
  have hrecord := hinv.maskedDecode_record hr hready
  refine ⟨s.maskedDecode, exec_decode_noncanonical hready hw, exec_decode_zero hready, ?_⟩
  rw [hinv.maskedDecode_eq hr hready] at hrecord ⊢
  exact ⟨rfl, rfl, rfl, rfl, rfl, rfl, rfl, rfl, rfl, rfl, rfl, rfl, hrecord, toNat_ofFin _, toNat_ofFin _⟩

/-! ## The mode multiplexer (R153, R154) -/

/-- What the selected slot drives depends on the index alone. -/
theorem decodeOk_of_index_eq (s : State) {w w' : Word} (h : w'.extractLsb' 0 11 = w.extractLsb' 0 11) :
    (s.decodeOk w').src0Sel = (s.decodeOk w).src0Sel ∧ (s.decodeOk w').dst0Sel = (s.decodeOk w).dst0Sel
      ∧ (s.decodeOk w').variant = (s.decodeOk w).variant := by
  have hslot : readTable s.table (cutCodeword w').index = readTable s.table (cutCodeword w).index :=
    congrArg (readTable s.table) h
  exact ⟨congrArg (srcSel ∘ Variant.src0) hslot, congrArg (dstSel ∘ Variant.dst0) hslot,
    congrArg Variant.toEntry hslot⟩

/-- Settles O18, from the class and option fields of the slot's ENTRY. -/
theorem selectLinesFollowTheSlot : Obligations.SelectLinesFollowTheSlot := by
  intro s w hready hw
  obtain ⟨-, -, hsrcClass, hsrcOpt, hdstClass, hdstOpt, -⟩ :=
    (readTable s.table (cutCodeword w).index).toEntry_fields
  have hvariant : (s.decodeOk w).variant = (readTable s.table (cutCodeword w).index).toEntry := rfl
  refine ⟨s.decodeOk w, exec_decode_canonical hready hw, ?_, ?_, fun w' hw' hindex => ?_⟩
  · rw [hvariant, hsrcClass, hsrcOpt]
    exact srcSel_mem_table _
  · rw [hvariant, hdstClass, hdstOpt]
    exact dstSel_mem_table _
  · exact ⟨_, exec_decode_canonical hready hw', decodeOk_of_index_eq s hindex⟩

/-! ## Bare codewords (R83, R175; log entries 5 and 17) -/

/-- Whichever row a bare codeword is read as, its own response in READY is DECODE's to that word: the row's fields are
cut from the word and spell it again. -/
theorem ownResponse_fetch_cw {s : State} (hready : s.state = .ready) (w : Word) :
    ownResponse s (s.fetch (.cw w)) = s.decodeAnswer w := by
  have hctx : s.cwContext.ready = true := decide_eq_true hready
  change ownResponse s (decodeCw s.cwContext w) = s.decodeAnswer w
  cases h11 : w.getLsbD 11 with
  | true => rw [decodeCw_gap11 h11, ownResponse, ← gap_of_bit11 h11, codewordBits_cutCodeword]
  | false =>
    cases h12 : w.getLsbD 12 with
    | true => rw [decodeCw_gap12 h11 h12, ownResponse, ← gap_of_bit12 h11 h12, codewordBits_cutCodeword]
    | false =>
      have hc : canonical w = true := (canonical_iff_bits w).mpr ⟨h11, h12⟩
      rw [decodeCw_canonical hctx hc]
      split
      case isTrue hnop => exact congrArg s.decodeAnswer hnop.symm
      split
      case isTrue hpanic => exact congrArg s.decodeAnswer hpanic.symm
      rw [ownResponse_familyInstr, codeword_cutCodeword hc, decodeAnswer_canonical hc]

/-- Settles O17: in READY every instruction gives its own response, and the row's is DECODE's. -/
theorem codewordRowAnswersAsDecode : Obligations.CodewordRowAnswersAsDecode := by
  intro s w hready
  refine ⟨_, _, exec_ready (.decode w) hready, ?_⟩
  rw [exec_ready _ hready, ownResponse_fetch_cw hready]
  rfl

end Sys2Proof.Machine
end

section
/-! PROOFS. The CAM and the encode core (spec/43_encode_cam.md): the CAM as a linear search, the packed word as the
codeword of its fields, LOOKUP and ENCODE in each value of STATE, and the round trips of a built block. -/

namespace Sys2Proof

/-! ## The CAM (R170) -/

section cam

variable {t : List Variant} (ht : t.length = tableLen)
include ht

/-- Every slot number names an entry (R54). -/
theorem readTable_eq_getElem (i : Slot) : readTable t i = t[i.toNat]'(ht ▸ i.isLt) :=
  List.getD_eq_getElem t invalidV _

/-- The entries of a table are what its slots hold. -/
theorem mem_iff_readTable {x : Variant} : x ∈ t ↔ ∃ i : Slot, readTable t i = x := by
  rw [List.mem_iff_getElem]
  constructor
  · rintro ⟨n, hn, rfl⟩
    exact ⟨BitVec.ofNatLT n (hn.trans_eq ht), readTable_eq_getElem ht _⟩
  · rintro ⟨i, rfl⟩
    exact ⟨i.toNat, ht ▸ i.isLt, (readTable_eq_getElem ht i).symm⟩

theorem cam_eq_none_iff_readTable {key : Variant} : cam t key = none ↔ ∀ j : Slot, readTable t j ≠ key := by
  rw [cam_eq_none_iff ht, mem_iff_readTable ht, not_exists]

/-- A hit is the lowest slot that holds the key. -/
theorem cam_eq_some_iff {key : Variant} {i : Slot} :
    cam t key = some i ↔ readTable t i = key ∧ ∀ j : Slot, j < i → readTable t j ≠ key := by
  have hindex : cam t key = some i ↔ t.findIdx? (fun v => v == key) = some i.toNat := by
    rw [cam_eq_findIdx ht, Option.map_eq_some_iff]
    constructor
    · rintro ⟨n, hn, rfl⟩
      obtain ⟨hlt, -⟩ := List.findIdx?_eq_some_iff_findIdx_eq.mp hn
      rw [hn, BitVec.toNat_ofNat, Nat.mod_eq_of_lt (hlt.trans_eq ht)]
    · exact fun h => ⟨_, h, by simp⟩
  rw [hindex, List.findIdx?_eq_some_iff_getElem]
  simp only [beq_iff_eq, readTable_eq_getElem ht]
  constructor
  · rintro ⟨_, hkey, hlow⟩
    exact ⟨hkey, fun j hj => hlow j.toNat hj⟩
  · rintro ⟨hkey, hlow⟩
    exact ⟨ht ▸ i.isLt, hkey, fun n hn => hlow (BitVec.ofNatLT n (hn.trans i.isLt)) hn⟩

end cam

/-- Settles O47, from the two answers of the CAM. -/
theorem camIsALinearSearch : Obligations.CamIsALinearSearch := by
  intro t key ht
  refine ⟨fun i => cam_eq_some_iff ht, cam_eq_none_iff_readTable ht, fun hzero => ?_⟩
  exact (cam_eq_some_iff ht).mpr ⟨hzero, fun j hj => absurd hj BitVec.not_lt_zero⟩

/-! ## The packed word (R173) -/

theorem DecodedInstr.inRange_iff (x : DecodedInstr) :
    x.inRange = true ↔ x.cond < 2 ^ 3 ∧ x.src0Reg < 2 ^ 4 ∧ x.src1Reg < 2 ^ 4 ∧ x.dst0Reg < 2 ^ 4 ∧ x.dst1Reg < 2 ^ 4
      ∧ x.imm0 < 2 ^ 16 ∧ x.imm1 < 2 ^ 16 := by
  simp [DecodedInstr.inRange, and_assoc]

/-- A field placed above everything packed so far adds its multiple of the place's power of two. -/
theorem toNat_or_shiftLeft {a : Word} {m n k : Nat} (ha : a.toNat = m) (hm : m < 2 ^ k) (hn : n * 2 ^ k < 2 ^ 64) :
    (a ||| BitVec.ofNat 64 n <<< k).toNat = m + n * 2 ^ k := by
  have hfit : n < 2 ^ 64 := (Nat.le_mul_of_pos_right n (Nat.two_pow_pos k)).trans_lt hn
  rw [BitVec.toNat_or, BitVec.toNat_shiftLeft, BitVec.toNat_ofNat, Nat.mod_eq_of_lt hfit, Nat.shiftLeft_eq,
    Nat.mod_eq_of_lt hn, ha, ← Nat.shiftLeft_eq, Nat.or_comm, ← Nat.shiftLeft_add_eq_or_of_lt hm, Nat.add_comm]

theorem toNat_packWord (i : Slot) {x : DecodedInstr} (h : x.inRange = true) :
    (packWord i x).toNat = i.toNat + x.cond * 2 ^ 13 + x.src0Reg * 2 ^ 16 + x.src1Reg * 2 ^ 20 + x.dst0Reg * 2 ^ 24
      + x.dst1Reg * 2 ^ 28 + x.imm0 * 2 ^ 32 + x.imm1 * 2 ^ 48 := by
  obtain ⟨hcond, hs0, hs1, hd0, hd1, hi0, hi1⟩ := x.inRange_iff.mp h
  have hi := i.isLt
  have hindex : (i.setWidth 64).toNat = i.toNat := BitVec.toNat_setWidth_of_le (by decide)
  unfold packWord
  refine toNat_or_shiftLeft (toNat_or_shiftLeft (toNat_or_shiftLeft (toNat_or_shiftLeft (toNat_or_shiftLeft
    (toNat_or_shiftLeft (toNat_or_shiftLeft hindex ?_ ?_) ?_ ?_) ?_ ?_) ?_ ?_) ?_ ?_) ?_ ?_) ?_ ?_ <;> omega

/-- Settles O10: the core's three answers, and the sum that the packed word is. -/
theorem encodeCoreChecksLookupThenRange : Obligations.EncodeCoreChecksLookupThenRange := by
  intro t x
  refine ⟨fun hmiss => ?_, fun i hhit hout => ?_, fun i hhit hcond hs0 hs1 hd0 hd1 hi0 hi1 => ?_⟩
  · rw [encCore, hmiss]
  · have hrange : ¬ x.inRange = true := by rw [x.inRange_iff]; omega
    simp only [encCore, hhit, if_neg hrange]
  · have hrange : x.inRange = true := x.inRange_iff.mpr ⟨hcond, hs0, hs1, hd0, hd1, hi0, hi1⟩
    refine ⟨packWord i x, ?_, toNat_packWord i hrange⟩
    simp only [encCore, hhit, if_pos hrange]

theorem toNat_append_eq_add {m n : Nat} (x : BitVec m) (y : BitVec n) :
    (x ++ y).toNat = x.toNat * 2 ^ n + y.toNat := by
  rw [BitVec.toNat_append, ← Nat.shiftLeft_add_eq_or_of_lt y.isLt, Nat.shiftLeft_eq]

/-- The decoded instruction of a variant and the fields of a codeword (R8). -/
def Codeword.instr (c : Codeword) (x : Variant) : DecodedInstr :=
  { variant := x, cond := c.cond.toNat, src0Reg := c.src0Reg.toNat, src1Reg := c.src1Reg.toNat,
    dst0Reg := c.dst0Reg.toNat, dst1Reg := c.dst1Reg.toNat, imm0 := c.imm0.toNat, imm1 := c.imm1.toNat }

section instr

variable (c : Codeword) (x : Variant)

/-- Fields that have their width are in range (R174). -/
theorem inRange_instr : (c.instr x).inRange = true :=
  (DecodedInstr.inRange_iff _).mpr
    ⟨c.cond.isLt, c.src0Reg.isLt, c.src1Reg.isLt, c.dst0Reg.isLt, c.dst1Reg.isLt, c.imm0.isLt, c.imm1.isLt⟩

/-- The packing of R173 is the codeword layout of R70 with a zero gap. -/
theorem packWord_instr (i : Slot) : packWord i (c.instr x) = codeword { c with index := i } := by
  apply BitVec.eq_of_toNat_eq
  rw [toNat_packWord i (inRange_instr c x)]
  simp only [codeword, codewordBits, toNat_append_eq_add, Codeword.instr, BitVec.ofNat_eq_ofNat, BitVec.toNat_zero]
  ring

theorem encCore_instr_hit {t : List Variant} {i : Slot} (h : cam t x = some i) :
    encCore t (c.instr x) = (.ok, codeword { c with index := i }) := by
  have hcam : cam t (c.instr x).variant = some i := h
  simp only [encCore, hcam, if_pos (inRange_instr c x), packWord_instr]

theorem encCore_instr_miss {t : List Variant} (h : cam t x = none) : encCore t (c.instr x) = (.lookupMiss, 0) := by
  have hcam : cam t (c.instr x).variant = none := h
  simp only [encCore, hcam]

end instr

/-- The fields of a codeword by their places (R70). -/
theorem codeword_fields (c : Codeword) :
    (codeword c).extractLsb' 0 11 = c.index ∧ (codeword c).extractLsb' 11 2 = 0 ∧ (codeword c).extractLsb' 13 3 = c.cond
      ∧ (codeword c).extractLsb' 16 4 = c.src0Reg ∧ (codeword c).extractLsb' 20 4 = c.src1Reg
      ∧ (codeword c).extractLsb' 24 4 = c.dst0Reg ∧ (codeword c).extractLsb' 28 4 = c.dst1Reg
      ∧ (codeword c).extractLsb' 32 16 = c.imm0 ∧ (codeword c).extractLsb' 48 16 = c.imm1 := by
  have h := cutCodeword_codeword c
  exact ⟨congrArg Codeword.index h, (canonical_iff _).mp (canonical_codeword c), congrArg Codeword.cond h,
    congrArg Codeword.src0Reg h, congrArg Codeword.src1Reg h, congrArg Codeword.dst0Reg h, congrArg Codeword.dst1Reg h,
    congrArg Codeword.imm0 h, congrArg Codeword.imm1 h⟩

/-- Clearing bits [10:0] clears the index and nothing else. -/
theorem codeword_and_mask (c : Codeword) :
    codeword c &&& 0xFFFFFFFFFFFFF800#64 = codeword { c with index := 0 } := by
  have hmask : (0xFFFFFFFFFFFFF800#64 : Word) = BitVec.allOnes 53 ++ 0#11 := by decide
  rw [hmask]
  unfold codeword codewordBits
  refine BitVec.and_append.trans ?_
  rw [BitVec.and_allOnes, BitVec.and_zero]
  rfl

/-! ## The slot a key finds (R170, R171) -/

/-- A key names the Variant whose ENTRY agrees with it in bits [23:0], and no other (R79, R171). -/
theorem Variant.ofEntry_eq_some_iff {key : Entry} {x : Variant} :
    Variant.ofEntry key = some x ↔ x.toEntry.extractLsb' 0 24 = key.extractLsb' 0 24 := by
  rw [← Variant.ofEntry_low 0 key]
  constructor
  · intro h
    rw [Variant.toEntry_of_ofEntry h BitVec.extractLsb'_append_eq_left]
    exact BitVec.extractLsb'_append_eq_right
  · intro h
    rw [← h, Variant.ofEntry_low, Variant.ofEntry_toEntry]

/-- The slot LOOKUP and ENCODE find for a key: the CAM's for the Variant it names, none where it names no mode (R85 (c)). -/
def keySlot (t : List Variant) (key : Entry) : Option Slot := (Variant.ofEntry key).bind (cam t)

theorem keySlot_of_agrees (t : List Variant) {key : Entry} {x : Variant}
    (h : key.extractLsb' 0 24 = x.toEntry.extractLsb' 0 24) : keySlot t key = cam t x := by
  rw [keySlot, Variant.ofEntry_eq_some_iff.mpr h.symm, Option.bind_some]

section keySlot

variable {t : List Variant} (ht : t.length = tableLen) {key : Entry}
include ht

theorem keySlot_eq_some {i : Slot} (hi : (readTable t i).toEntry.extractLsb' 0 24 = key.extractLsb' 0 24)
    (hlow : ∀ j : Slot, j < i → (readTable t j).toEntry.extractLsb' 0 24 ≠ key.extractLsb' 0 24) :
    keySlot t key = some i := by
  rw [keySlot_of_agrees t hi.symm, cam_eq_some_iff ht]
  exact ⟨rfl, fun j hj he => hlow j hj (he ▸ hi)⟩

theorem keySlot_eq_none (h : ∀ j : Slot, (readTable t j).toEntry.extractLsb' 0 24 ≠ key.extractLsb' 0 24) :
    keySlot t key = none := by
  refine Option.bind_eq_none_iff.mpr fun x hx => (cam_eq_none_iff_readTable ht).mpr fun j hj => h j ?_
  exact hj ▸ Variant.ofEntry_eq_some_iff.mp hx

end keySlot

end Sys2Proof

namespace Sys2Proof.Machine

open Sys2Proof

/-- Settles O13, from the response order of R219. -/
theorem readConstAnswersTheDerivedWords : Obligations.ReadConstAnswersTheDerivedWords :=
  fun _ _ => ⟨exec_building rfl, exec_failed rfl, exec_ready _, exec_ready _⟩

/-! ## LOOKUP and ENCODE in READY (R171, R172) -/

section answers

variable (s : State) {key : Entry} (cond : Cond) (s0 s1 d0 d1 : RegIdx) (i0 i1 : Imm)

theorem lookupAnswer_hit {i : Slot} (h : keySlot s.table key = some i) : s.lookupAnswer key = (.ok, .index i) := by
  rw [keySlot] at h
  rw [State.lookupAnswer, h]

theorem lookupAnswer_miss (h : keySlot s.table key = none) : s.lookupAnswer key = (.lookupMiss, .index 0) := by
  rw [keySlot] at h
  rw [State.lookupAnswer, h]

/-- A hit answers the codeword of the slot found and the operands. -/
theorem encodeAnswer_hit {i : Slot} (h : keySlot s.table key = some i) :
    s.encodeAnswer key cond s0 s1 d0 d1 i0 i1 = (.ok, .word (codeword ⟨i, cond, s0, s1, d0, d1, i0, i1⟩)) := by
  obtain ⟨x, hx, hcam⟩ := Option.bind_eq_some_iff.mp h
  have hcore := encCore_instr_hit ⟨i, cond, s0, s1, d0, d1, i0, i1⟩ x hcam
  rw [State.encodeAnswer, hx]
  exact congrArg (fun r : RespCode × Word => (r.1, Result.word r.2)) hcore

theorem encodeAnswer_miss (h : keySlot s.table key = none) :
    s.encodeAnswer key cond s0 s1 d0 d1 i0 i1 = (.lookupMiss, .word 0) := by
  rw [State.encodeAnswer]
  cases hx : Variant.ofEntry key with
  | none => rfl
  | some x =>
    rw [keySlot, hx] at h
    have hcore := encCore_instr_miss ⟨0, cond, s0, s1, d0, d1, i0, i1⟩ x h
    exact congrArg (fun r : RespCode × Word => (r.1, Result.word r.2)) hcore

end answers

section ready

variable {s : State} (hready : s.state = .ready) {key : Entry} {cond : Cond} {s0 s1 d0 d1 : RegIdx} {i0 i1 : Imm}
include hready

theorem exec_lookup_hit {i : Slot} (h : keySlot s.table key = some i) :
    exec (.lookup key) s = .next (s.answer (.lookup key) .ok (.index i)) :=
  (exec_ready_eq_answer_iff hready).mpr (lookupAnswer_hit s h)

theorem exec_lookup_miss (h : keySlot s.table key = none) :
    exec (.lookup key) s = .next (s.answer (.lookup key) .lookupMiss (.index 0)) :=
  (exec_ready_eq_answer_iff hready).mpr (lookupAnswer_miss s h)

theorem exec_encode_hit {i : Slot} (h : keySlot s.table key = some i) :
    exec (.encode key cond s0 s1 d0 d1 i0 i1) s
      = .next (s.answer (.encode key cond s0 s1 d0 d1 i0 i1) .ok (.word (codeword ⟨i, cond, s0, s1, d0, d1, i0, i1⟩))) :=
  (exec_ready_eq_answer_iff hready).mpr (encodeAnswer_hit s cond s0 s1 d0 d1 i0 i1 h)

theorem exec_encode_miss (h : keySlot s.table key = none) :
    exec (.encode key cond s0 s1 d0 d1 i0 i1) s
      = .next (s.answer (.encode key cond s0 s1 d0 d1 i0 i1) .lookupMiss (.word 0)) :=
  (exec_ready_eq_answer_iff hready).mpr (encodeAnswer_miss s cond s0 s1 d0 d1 i0 i1 h)

/-- Every word that ENCODE answers is canonical: the codeword of the slot found, or word 0. -/
theorem canonical_of_exec_encode {c : RespCode} {w : Word}
    (h : exec (.encode key cond s0 s1 d0 d1 i0 i1) s
      = .next (s.answer (.encode key cond s0 s1 d0 d1 i0 i1) c (.word w))) : canonical w = true := by
  have hown := (exec_ready_eq_answer_iff hready).mp h
  rw [ownResponse] at hown
  cases hslot : keySlot s.table key with
  | none => cases (encodeAnswer_miss s cond s0 s1 d0 d1 i0 i1 hslot).symm.trans hown; rfl
  | some i => cases (encodeAnswer_hit s cond s0 s1 d0 d1 i0 i1 hslot).symm.trans hown; exact canonical_codeword _

end ready

end Sys2Proof.Machine

namespace Sys2Proof

/-! ## The entries of a built table (R78, R138, R179) -/

/-- A flag that the family does not declare is clear (R78). -/
def Caps.FlagsDeclared (c : Caps) (x : Variant) : Prop :=
  ((c.get x.fam).nFlags.val = 0 → x.flag0 = false) ∧ ((c.get x.fam).nFlags.val ≤ 1 → x.flag1 = false)

theorem flagsDeclared_of_mem_enum {c : Caps} {v : Version} {x : Variant} (h : x ∈ enum c v) : c.FlagsDeclared x := by
  obtain ⟨_, _, -, -, hx⟩ := mem_enumSubs.mp (mem_enum.mp h)
  obtain ⟨-, -, -, -, hflags⟩ := mem_enumSub.mp hx
  exact hflags

section built

variable {cfg : Configuration} {v : Version} {T : Tables} (hT : build cfg v = .ok T)
include hT

/-- The padding adds nothing to a built accumulator, whose entry 0 is INVALID_V already (R131, R133). -/
theorem mem_table_iff {acc : List Variant} (hacc : accumulatorAt cfg v = .ok acc) {x : Variant} :
    x ∈ T.table ↔ x ∈ acc := by
  obtain ⟨_, hacc', hhead, -, htable, -⟩ := build_ok_accumulator hT
  cases hacc'.symm.trans hacc
  rw [htable]
  by_cases hx : x = invalidV
  · have hmem : invalidV ∈ acc := List.mem_of_head? hhead
    exact hx ▸ iff_of_true (List.mem_append_left _ hmem) hmem
  · exact mem_padTable hx

theorem flagsDeclared_of_mem_table {x : Variant} (hx : x ∈ T.table) : cfg.caps.FlagsDeclared x := by
  obtain ⟨acc, hacc, -⟩ := build_ok_accumulator hT
  exact forall_mem_of_accumulatorAt (fun _ _ => flagsDeclared_of_mem_enum) hacc x ((mem_table_iff hT hacc).mp hx)

/-- An entry of an earlier accumulator that is still in the table is at its old index: its class is there (R137), and no
other entry is of that class (R138). -/
theorem table_getElem?_of_mem (hwf : cfg.wf = true) {u : Version} (huv : u ≤ v) {acc₀ : List Variant}
    (hacc₀ : accumulatorAt cfg u = .ok acc₀) {i : Nat} {x : Variant} (hi : acc₀[i]? = some x) (hx : x ∈ T.table) :
    T.table[i]? = some x := by
  obtain ⟨hval, -⟩ := build_ok hT
  obtain ⟨acc, hacc, -, -, htable, -⟩ := build_ok_accumulator hT
  have hdist := semDistinct_accumulatorAt hwf (mem_versions_of_validate hval) hacc
  have hpre := map_sem_prefix_accumulatorAt huv hacc₀ hacc
  have hclass₀ : (acc₀.map Variant.sem)[i]? = some x.sem := by rw [List.getElem?_map, hi, Option.map_some]
  have hclass : (acc.map Variant.sem)[i]? = some x.sem := by
    obtain ⟨hlt, -⟩ := List.getElem?_eq_some_iff.mp hclass₀
    rw [List.prefix_iff_getElem?.mp hpre i hlt, ← List.getElem?_eq_getElem hlt, hclass₀]
  obtain ⟨y, hy, hyx⟩ : ∃ y, acc[i]? = some y ∧ y.sem = x.sem := by simpa using hclass
  have heq : y = x := hdist.eq_of_semEq (List.mem_of_getElem? hy) ((mem_table_iff hT hacc).mp hx)
    ((semEq_iff_sem y x).mpr hyx)
  rw [htable, padTable, List.getElem?_append_left (List.getElem?_eq_some_iff.mp hy).1, hy, heq]

/-- Below COUNT no lower slot holds the same Variant (R138), so the CAM gives the slot itself. -/
theorem cam_readTable (hwf : cfg.wf = true) {i : Slot} (hi : i.toNat < T.count.toNat) :
    cam T.table (readTable T.table i) = some i := by
  obtain ⟨hdistinct, -⟩ := synthesizedEntriesAreDistinct cfg v hwf
  exact (cam_eq_some_iff (build_table_length hT)).mpr ⟨rfl, fun j hj => (hdistinct T hT j.toNat i.toNat hj hi).1⟩

/-- A key with an undeclared flag set is in no slot (R78, R171). -/
theorem keySlot_of_undeclared_flag {key : Entry} {f : Family} (hf : key.extractLsb' 0 4 = f.tag)
    (h : ((cfg.caps.get f).nFlags.val = 0 ∧ (key.getLsbD 22 = true ∨ key.getLsbD 23 = true))
      ∨ ((cfg.caps.get f).nFlags.val = 1 ∧ key.getLsbD 23 = true)) :
    keySlot T.table key = none := by
  refine Option.bind_eq_none_iff.mpr fun x hx => (cam_eq_none_iff (build_table_length hT)).mpr fun hmem => ?_
  obtain ⟨htag, -, -, -, -, -, hflag0, hflag1⟩ := Variant.ofEntry_eq_some hx
  obtain rfl : x.fam = f := by rw [← Family.ofTag_tag x.fam, htag, hf, Family.ofTag_tag]
  obtain ⟨hclear0, hclear1⟩ := flagsDeclared_of_mem_table hT hmem
  rw [getLsbD_eq_of_extractLsb' hflag0.symm, getLsbD_eq_of_extractLsb' hflag1.symm] at h
  obtain ⟨hn, h | h⟩ | ⟨hn, h⟩ := h
  · exact nomatch h.symm.trans (hclear0 hn)
  · exact nomatch h.symm.trans (hclear1 (by omega))
  · exact nomatch h.symm.trans (hclear1 (by omega))

end built

/-! ## The derived constants (R135, R175) -/

/-- The variant of a derived constant: flags clear, the first option of the family's source class, and a destination
option (R175). -/
def derivedVariant (cfg : Configuration) (v : Version) (f : Family) (sub : SubIdx) (d : DstMode) : Variant :=
  { fam := f, sub := sub, src0 := ((cfg.caps.get f).srcClass v).srcFirst, dst0 := d, flag1 := false, flag0 := false }

/-- The only way to derive a word is a CAM hit. -/
theorem deriveWord_instr_ok {t : List Variant} {c : Codeword} {x : Variant} {w : Word}
    (h : deriveWord t (some (c.instr x)) = .ok w) : ∃ i, cam t x = some i ∧ w = codeword { c with index := i } := by
  cases hcam : cam t x with
  | none => rw [deriveWord, encCore_instr_miss c x hcam] at h; cases h
  | some i => rw [deriveWord, encCore_instr_hit c x hcam] at h; cases h; exact ⟨i, rfl, rfl⟩

/-- A derived word is the codeword of the slot that holds its variant, COND_ALWAYS and zero operands. -/
theorem deriveWord_derivedInstr_ok {cfg : Configuration} {v : Version} {f : Family} {sub : SubIdx} {t : List Variant}
    {w : Word} (h : deriveWord t (derivedInstr cfg v f sub) = .ok w) :
    ∃ d i, ((cfg.caps.get f).dstClass v).dstFirst = some d ∧ cam t (derivedVariant cfg v f sub d) = some i
      ∧ w = codeword ⟨i, cfg.condAlways, 0, 0, 0, 0, 0, 0⟩ := by
  unfold derivedInstr at h
  cases hd : ((cfg.caps.get f).dstClass v).dstFirst with
  | none => rw [hd] at h; cases h
  | some d =>
    rw [hd] at h
    obtain ⟨i, hcam, hw⟩ := deriveWord_instr_ok (c := ⟨0, cfg.condAlways, 0, 0, 0, 0, 0, 0⟩)
      (x := derivedVariant cfg v f sub d) h
    exact ⟨d, i, rfl, hcam, hw⟩

end Sys2Proof

namespace Sys2Proof.Machine

open Sys2Proof

/-! ## The CAM of a built block (R170, R171) -/

section built

variable {s : State} (hinv : s.Inv) (hr : s.resetIn = false) (hready : s.state = .ready)
include hinv hr hready

theorem State.Inv.cam_readTable {i : Slot} (hi : i.toNat < s.count.toNat) :
    cam s.table (readTable s.table i) = some i :=
  Sys2Proof.cam_readTable (hinv.ready hr hready) hinv.cfgOk hi

/-- INVALID_V, which every padding slot holds too, is found in slot 0. -/
theorem State.Inv.cam_invalidV : cam s.table invalidV = some 0 := by
  obtain ⟨-, -, hfirst⟩ := camIsALinearSearch s.table invalidV (build_table_length (hinv.ready hr hready))
  exact hfirst (hinv.readTable_zero hr hready)

theorem State.Inv.keySlot_invalidV {key : Entry} (h : key.extractLsb' 0 24 = 0) : keySlot s.table key = some 0 := by
  rw [keySlot_of_agrees s.table (h.trans (by decide : (0 : BitVec 24) = invalidV.toEntry.extractLsb' 0 24))]
  exact hinv.cam_invalidV hr hready

end built

/-! ## LOOKUP and ENCODE in each value of STATE (R171, R172) -/

/-- Settles O8: the slot a key finds, in any table of 2048 slots and in a built one. -/
theorem lookupFindsTheLowestSlot : Obligations.LookupFindsTheLowestSlot := by
  intro s key
  refine ⟨exec_building rfl, exec_failed rfl, fun hready hslots i hi hlow => ?_, fun hready hslots hno => ?_,
    fun hinv hr hready hzero => ?_, fun hinv hr hready f hf hflag => ?_⟩
  · exact exec_lookup_hit hready (keySlot_eq_some ((slotsWf_iff s).mp hslots).1 hi hlow)
  · exact exec_lookup_miss hready (keySlot_eq_none ((slotsWf_iff s).mp hslots).1 hno)
  · exact exec_lookup_hit hready (hinv.keySlot_invalidV hr hready hzero)
  · exact exec_lookup_miss hready (keySlot_of_undeclared_flag (hinv.ready hr hready) hf hflag)

/-- Settles O9: the word is the codeword of the slot found and the operands. -/
theorem encodePacksTheOperands : Obligations.EncodePacksTheOperands := by
  intro s key cond s0 s1 d0 d1 i0 i1
  refine ⟨exec_building rfl, exec_failed rfl, fun hready hslots i hi hlow => ?_, fun hready hslots hno => ?_,
    fun hinv hr hready hzero => ?_⟩
  · exact ⟨_, exec_encode_hit hready (keySlot_eq_some ((slotsWf_iff s).mp hslots).1 hi hlow), codeword_fields _⟩
  · exact exec_encode_miss hready (keySlot_eq_none ((slotsWf_iff s).mp hslots).1 hno)
  · exact ⟨_, exec_encode_hit hready (hinv.keySlot_invalidV hr hready hzero), (codeword_fields _).1⟩

/-! ## The derived constants decode (R175) -/

/-- The result of decoding the codeword of given fields, in any state. -/
theorem decodeOk_codeword_fields (s : State) (c : Codeword) :
    (s.decodeOk (codeword c)).index = c.index ∧ (s.decodeOk (codeword c)).variant = (readTable s.table c.index).toEntry
      ∧ (s.decodeOk (codeword c)).cond = c.cond ∧ (s.decodeOk (codeword c)).src0Reg = c.src0Reg
      ∧ (s.decodeOk (codeword c)).src1Reg = c.src1Reg ∧ (s.decodeOk (codeword c)).dst0Reg = c.dst0Reg
      ∧ (s.decodeOk (codeword c)).dst1Reg = c.dst1Reg ∧ (s.decodeOk (codeword c)).imm0 = c.imm0
      ∧ (s.decodeOk (codeword c)).imm1 = c.imm1 := by
  rw [State.decodeOk, cutCodeword_codeword]
  exact ⟨rfl, rfl, rfl, rfl, rfl, rfl, rfl, rfl, rfl⟩

/-- Decoding a derived word gives the derived instruction. -/
theorem decodeAnswer_of_deriveWord {s : State} (ht : s.table.length = tableLen) {v : Version} {f : Family}
    {sub : SubIdx} {w : Word} (h : deriveWord s.table (derivedInstr s.cfg v f sub) = .ok w) :
    ∃ (r : DecodeResult) (d : DstMode), s.decodeAnswer w = (.ok, .decode r)
      ∧ ((s.cfg.caps.get f).dstClass v).dstFirst = some d
      ∧ r.variant = (derivedVariant s.cfg v f sub d).toEntry
      ∧ r.cond = s.cfg.condAlways ∧ r.src0Reg = 0 ∧ r.src1Reg = 0 ∧ r.dst0Reg = 0 ∧ r.dst1Reg = 0
      ∧ r.imm0 = 0 ∧ r.imm1 = 0 := by
  obtain ⟨d, i, hd, hcam, rfl⟩ := deriveWord_derivedInstr_ok h
  obtain ⟨hslot, -⟩ := (cam_eq_some_iff ht).mp hcam
  obtain ⟨-, hvariant, hfields⟩ := decodeOk_codeword_fields s ⟨i, s.cfg.condAlways, 0, 0, 0, 0, 0, 0⟩
  exact ⟨_, d, decodeAnswer_canonical (canonical_codeword _) s, hd, hvariant.trans (congrArg _ hslot), hfields⟩

/-- Settles O15: what DERIVE_CONSTANTS wrote decodes to what it encoded. -/
theorem derivedConstantsDecodeToNopAndPanic : Obligations.DerivedConstantsDecodeToNopAndPanic := by
  intro s hinv hr hready p hp
  have hT := hinv.ready hr hready
  obtain ⟨-, acc, -, hfin⟩ := build_ok hT
  obtain ⟨-, -, htable, -, -, hnop, hpanic⟩ := finishBuild_ok hfin
  rw [← htable] at hnop hpanic
  have hlen := build_table_length hT
  obtain rfl | rfl : p = (.nopConst, .nop, 0) ∨ p = (.panicConst, .ret, s.cfg.panicSub) := by simpa using hp
  · obtain ⟨r, d, hanswer, hrest⟩ := decodeAnswer_of_deriveWord hlen hnop
    exact ⟨r, d, (exec_ready_eq_answer_iff hready).mpr hanswer, hrest⟩
  · obtain ⟨r, d, hanswer, hrest⟩ := decodeAnswer_of_deriveWord hlen hpanic
    exact ⟨r, d, (exec_ready_eq_answer_iff hready).mpr hanswer, hrest⟩

/-! ## The round trips of a built block (R177, R178) -/

/-- Settles O48: the slot is the one its own ENTRY finds, and decoding cuts the fields that encoding put together. -/
theorem encodeThenDecodeGivesTheInstruction : Obligations.EncodeThenDecodeGivesTheInstruction := by
  intro s i key cond s0 s1 d0 d1 i0 i1 hinv hr hready hi hkey
  have hslot : keySlot s.table key = some i := (keySlot_of_agrees s.table hkey).trans (hinv.cam_readTable hr hready hi)
  exact ⟨_, _, exec_encode_hit hready hslot,
    exec_decode_canonical hready ((canonical_iff _).mp (canonical_codeword _)), decodeOk_codeword_fields s _⟩

/-- The slot that the ENTRY of a slot finds: the slot itself below COUNT, slot 0 for a padding slot (R170, R178). -/
theorem State.Inv.keySlot_toEntry {s : State} (hinv : s.Inv) (hr : s.resetIn = false) (hready : s.state = .ready)
    (i : Slot) :
    keySlot s.table (readTable s.table i).toEntry = some (if i.toNat < s.count.toNat then i else 0) := by
  rw [keySlot_of_agrees s.table rfl]
  split
  · rename_i hi
    exact hinv.cam_readTable hr hready hi
  · rename_i hi
    rw [hinv.readTable_padding hr hready (not_lt.mp hi)]
    exact hinv.cam_invalidV hr hready

/-- Settles O49: the ENTRY of the selected slot finds that slot again, or slot 0 where it is a padding slot; the other
fields are the word's own. -/
theorem decodeThenEncodeGivesTheWord : Obligations.DecodeThenEncodeGivesTheWord := by
  intro s w hinv hr hready
  refine ⟨fun hw => ?_, fun hw key cond s0 s1 d0 d1 i0 i1 c h => ?_⟩
  · have hword := codeword_cutCodeword ((canonical_iff w).mpr hw)
    refine ⟨_, _, exec_decode_canonical hready hw,
      exec_encode_hit hready (hinv.keySlot_toEntry hr hready (cutCodeword w).index), fun hi => ?_, fun hi => ?_⟩
    · rw [if_pos (show (cutCodeword w).index.toNat < s.count.toNat from hi)]
      exact hword
    · rw [if_neg (show ¬ (cutCodeword w).index.toNat < s.count.toNat from not_lt.mpr hi)]
      have hmask := codeword_and_mask (cutCodeword w)
      rw [hword] at hmask
      exact hmask.symm
  · exact hw ((canonical_iff w).mp (canonical_of_exec_encode hready h))

/-! ## Superseded spellings (R179) -/

/-- Settles O50: a spelling still in the table would be at its old index. -/
theorem supersededSpellingsMiss : Obligations.SupersededSpellingsMiss := by
  intro s v₀ acc₀ i x hinv hr hready hlt hacc₀ hi hnot
  have hT := hinv.ready hr hready
  have hlen : s.table.length = tableLen := build_table_length hT
  have hx : x ∉ s.table := fun hmem =>
    hnot (table_getElem?_of_mem hT hinv.cfgOk (BitVec.le_of_lt hlt) hacc₀ hi hmem)
  refine ⟨fun j hj => hx ((mem_iff_readTable hlen).mpr ⟨j, hj⟩), fun key hkey => ?_⟩
  have hslot : keySlot s.table key = none :=
    (keySlot_of_agrees s.table hkey).trans ((cam_eq_none_iff hlen).mpr hx)
  exact ⟨exec_lookup_miss hready hslot, fun _ _ _ _ _ _ _ => exec_encode_miss hready hslot⟩

end Sys2Proof.Machine
end

section
/-! PROOFS. Prices, STATUS and the reserved command codes (spec/44_price_status.md): the price of a Variant by the ROM
record of its sub-variant, what READ_PRICE and STATUS answer in each value of STATE, and BAD_CMD. -/

namespace Sys2Proof

/-! ## The price of a Variant (R190, R191, R195) -/

theorem toNat_ergMax (a b : Erg) : (ergMax a b).toNat = max a.toNat b.toNat := by
  unfold ergMax
  split
  · rename_i hle
    exact (max_eq_right (BitVec.le_def.mp hle)).symm
  · rename_i hlt
    exact (max_eq_left (BitVec.le_of_lt (BitVec.not_le.mp hlt))).symm

theorem priceOf_of_invalid (c : Caps) {x : Variant} (hx : x.fam = .invalid) : priceOf c x = 0xFFFFFFFF#32 := if_pos hx

/-- No addressing mode and no flag has a part in the price (R190). -/
theorem priceOf_congr (c : Caps) {x y : Variant} (hf : x.fam = y.fam) (hs : x.sub = y.sub) :
    priceOf c x = priceOf c y := by
  unfold priceOf
  rw [hf, hs]

section record

variable {c : Caps} {x : Variant} {sd : SubDesc} (hsd : (c.get x.fam).subs[x.sub.toNat]? = some sd)
include hsd

theorem toNat_priceOf_of_ne_invalid (hx : x.fam ≠ .invalid) :
    (priceOf c x).toNat = max sd.priceFormula.toNat sd.floor.toNat := by
  rw [priceOf, if_neg hx, Caps.attrs_eq hsd, toNat_ergMax]

/-- The price floor law (R195): for Invalid the price is the largest one there is. -/
theorem floor_le_priceOf : sd.floor.toNat ≤ (priceOf c x).toNat := by
  by_cases hx : x.fam = .invalid
  · rw [priceOf_of_invalid c hx]
    exact Nat.le_of_lt_succ sd.floor.isLt
  · rw [toNat_priceOf_of_ne_invalid hsd hx]
    exact le_max_right _ _

end record

end Sys2Proof

namespace Sys2Proof.Machine

open Sys2Proof

/-! ## READ_PRICE (R192, R195) -/

/-- The ROM holds the sub-variant of every slot of a built block (R22). -/
theorem State.Inv.holds_readTable {s : State} (hinv : s.Inv) (hr : s.resetIn = false) (hready : s.state = .ready)
    (i : Slot) : s.cfg.caps.Holds (readTable s.table i) :=
  holds_readTable_of_build hinv.cfgOk (hinv.ready hr hready) i

/-- Settles O7: DECODE's price is read from the slot the index selects, and slot 0 and the padding of a built table hold
INVALID_V. -/
theorem readPriceAnswersTheSlot : Obligations.ReadPriceAnswersTheSlot := by
  intro s i
  refine ⟨exec_building rfl, exec_failed rfl, exec_ready _, fun w hready hw hindex => ?_,
    fun hinv hr hready hi => ?_⟩
  · exact ⟨_, exec_decode_canonical hready hw, congrArg (readPriceSlot s.price) hindex⟩
  · have hslot : readTable s.table i = invalidV := by
      obtain rfl | hpad := hi
      · exact hinv.readTable_zero hr hready
      · exact hinv.readTable_padding hr hready hpad
    rw [hinv.readPriceSlot_eq hr hready, hslot, priceOf_invalidV]

/-- Settles O45: a slot of a built table has the price of its variant, whose sub-variant has a ROM record. -/
theorem pricesFollowTheDescriptor : Obligations.PricesFollowTheDescriptor := by
  intro s i hinv hr hready
  obtain ⟨sd, hsd⟩ := hinv.holds_readTable hr hready i
  have hprice := hinv.readPriceSlot_eq hr hready
  refine ⟨readPriceSlot s.price i, sd, exec_ready _ hready, hsd, ?_, ?_, ?_, fun j hf hs => ?_⟩
  · intro hinvalid
    rw [hprice, priceOf_of_invalid _ hinvalid]
    rfl
  · intro hne
    rw [hprice, toNat_priceOf_of_ne_invalid hsd hne]
  · rw [hprice]
    exact floor_le_priceOf hsd
  · rw [hprice, hprice, priceOf_congr _ hf hs]

/-! ## STATUS (R34, R193) -/

/-- The fields of the STATUS word by their places (R34). -/
theorem State.statusWord_fields (s : State) :
    s.statusWord.extractLsb' 0 2 = s.state.code ∧ s.statusWord.extractLsb' 2 2 = 0
      ∧ s.statusWord.extractLsb' 4 4 = faultCode s.fault ∧ s.statusWord.extractLsb' 8 12 = s.count
      ∧ s.statusWord.extractLsb' 20 8 = s.cfgVersion ∧ s.statusWord.extractLsb' 28 4 = 0 := by
  unfold State.statusWord
  refine ⟨?_, ?_, ?_, ?_, ?_, ?_⟩ <;> (repeat rw [BitVec.extractLsb'_append_eq_of_le (by decide)])
  case refine_6 => exact BitVec.extractLsb'_eq_self
  all_goals exact BitVec.extractLsb'_append_eq_right

/-- FAULT is 0 in every state but FAILED (R32). -/
theorem State.Inv.fault_eq_none {s : State} (hinv : s.Inv) (hr : s.resetIn = false) (hs : s.state ≠ .failed) :
    s.fault = none :=
  not_not.mp (mt (hinv.faultIff hr).mp hs)

/-- Settles O1: the registers stand at their places in the word, and the invariant says what they hold while BUILDING and
after a failed build. -/
theorem statusAnswersItsFieldsAtOnce : Obligations.StatusAnswersItsFieldsAtOnce := by
  intro s
  obtain ⟨hstate, hlow, hfault, hcount, hversion, hhigh⟩ := s.statusWord_fields
  refine ⟨s.statusWord, exec_of_atOnce rfl s, hstate, hlow, hfault, hcount, hversion, hhigh,
    fun hinv hr hb => ?_, fun hready => ?_, fun hinv hr hfailed => ?_⟩
  · rw [hstate, hfault, hcount, hb, hinv.fault_eq_none hr (by simp [hb]), hinv.countZero hr (by simp [hb])]
    exact ⟨rfl, rfl, rfl⟩
  · rw [hstate, hready]
    rfl
  · obtain ⟨f, hf, hbuild⟩ := hinv.failed hr hfailed
    rw [hstate, hfault, hcount, hfailed, hf, hinv.countZero hr (by simp [hfailed])]
    exact ⟨rfl, rfl, f, hbuild, rfl⟩

/-! ## The reserved command codes (R194) -/

/-- Settles O2: the reserved rows are no commands of the hold rule, and their own response is BAD_CMD with the all-zero
result. -/
theorem reservedCodesAnswerBadCmd : Obligations.ReservedCodesAnswerBadCmd := by
  intro s
  exact ⟨fun _ => exec_of_atOnce rfl s, fun _ _ => exec_of_atOnce rfl s, fun _ _ => exec_of_atOnce rfl s⟩

end Sys2Proof.Machine
end

section
/-! PROOFS. Responses and build faults (spec/60_exceptions.md): what stands at the response port after an instruction,
that it does not depend on the answers before it, what FAILED serves, and the one exceptional event of the block. -/

namespace Sys2Proof.Machine

open Sys2Proof

/-! ## What an instruction that is not held answers (R219) -/

/-- The response to an instruction that is not held: the refusal of a failed build for the commands of the hold rule,
else the instruction's own response. -/
def portResponse (s : State) (i : Instr) : RespCode × Result :=
  if heldWhileBuilding i = true ∧ s.state = .failed then (.failed, zeroRecord i) else ownResponse s i

theorem portResponse_of_atOnce (s : State) {i : Instr} (hi : heldWhileBuilding i = false) :
    portResponse s i = ownResponse s i := by
  simp [portResponse, hi]

theorem portResponse_of_not_failed {s : State} (hs : s.state ≠ .failed) (i : Instr) :
    portResponse s i = ownResponse s i := by
  simp [portResponse, hs]

theorem portResponse_failed {s : State} (hs : s.state = .failed) {i : Instr} (hi : heldWhileBuilding i = true) :
    portResponse s i = (.failed, zeroRecord i) :=
  if_pos ⟨hi, hs⟩

/-- Only BUILDING holds, and only commands of the hold rule (R244). -/
theorem exec_eq_answer_portResponse {i : Instr} {s : State} (h : heldWhileBuilding i = false ∨ s.state ≠ .building) :
    exec i s = .next (s.answer i (portResponse s i).1 (portResponse s i).2) := by
  cases hi : heldWhileBuilding i with
  | false => rw [portResponse_of_atOnce s hi, exec_of_atOnce hi]
  | true =>
    cases hs : s.state with
    | building => simp [hi, hs] at h
    | ready => rw [portResponse_of_not_failed (by simp [hs]), exec_ready i hs]
    | failed => rw [portResponse_failed hs hi, exec_failed hi hs]

/-- Every answer of an instruction is its response. -/
theorem resp_of_mem_answers_exec {i : Instr} {s t : State} (h : exec i s = .next t) {a : Answer} (ha : a ∈ t.answers) :
    a.resp = (portResponse s i).1 := by
  by_cases hheld : heldWhileBuilding i = false ∨ s.state ≠ .building
  · cases (exec_eq_answer_portResponse hheld).symm.trans h
    cases List.mem_singleton.mp ha
    rfl
  · obtain ⟨hi, hs⟩ := not_or.mp hheld
    cases (exec_building (eq_true_of_ne_false hi) (not_not.mp hs)).symm.trans h
    exact absurd ha List.not_mem_nil

/-! ## RANGE (R174, R216) -/

theorem decodeAnswer_ne_range (s : State) (w : Word) : (s.decodeAnswer w).1 ≠ .range := by
  cases hw : canonical w with
  | true => rw [decodeAnswer_canonical hw]; nofun
  | false => rw [decodeAnswer_noncanonical hw]; nofun

theorem lookupAnswer_ne_range (s : State) (key : Entry) : (s.lookupAnswer key).1 ≠ .range := by
  cases h : keySlot s.table key with
  | none => rw [lookupAnswer_miss s h]; nofun
  | some i => rw [lookupAnswer_hit s h]; nofun

/-- The encode core is given the operands of the port, each in the range of its field. -/
theorem encodeAnswer_ne_range (s : State) (key : Entry) (cond : Cond) (s0 s1 d0 d1 : RegIdx) (i0 i1 : Imm) :
    (s.encodeAnswer key cond s0 s1 d0 d1 i0 i1).1 ≠ .range := by
  cases h : keySlot s.table key with
  | none => rw [encodeAnswer_miss s cond s0 s1 d0 d1 i0 i1 h]; nofun
  | some i => rw [encodeAnswer_hit s cond s0 s1 d0 d1 i0 i1 h]; nofun

theorem subvarAnswer_ne_range (s : State) (f : BitVec 4) (sidx : SubIdx) (ver : Version) :
    (s.subvarAnswer f sidx ver).1 ≠ .range := by
  by_cases ha : ∃ sd, (s.cfg.caps.get (Family.ofTag f)).sub? sidx = some sd
      ∧ (s.cfg.caps.get (Family.ofTag f)).availSub sd ver = true
  · obtain ⟨sd, hsd, hav⟩ := ha
    rw [subvarAnswer_available hsd hav]
    nofun
  · rw [subvarAnswer_unavailable fun sd hsd => Bool.eq_false_iff.mpr fun hav => ha ⟨sd, hsd, hav⟩]
    nofun

/-- The rows with a fixed status have another one, and every codeword row answers as DECODE does. -/
theorem ownResponse_ne_range (s : State) (i : Instr) : (ownResponse s i).1 ≠ .range := by
  cases i
  case encode => exact encodeAnswer_ne_range s _ _ _ _ _ _ _ _
  case lookup => exact lookupAnswer_ne_range s _
  case subvar => exact subvarAnswer_ne_range s _ _ _
  case status | canon | readEntry | readPrice | readConst => nofun
  case reservedCmd9 | reservedCmdAB | reservedCmdCF => nofun
  all_goals exact decodeAnswer_ne_range s _

/-- Settles O11: RANGE is no instruction's own response, and the refusal of a failed build is FAILED. -/
theorem noInstructionAnswersRange : Obligations.NoInstructionAnswersRange := by
  intro i s t h a ha
  rw [resp_of_mem_answers_exec h ha, portResponse]
  split
  · nofun
  · exact ownResponse_ne_range s i

/-! ## The frame of every instruction, and the order of the commands (R56, R221, R224, R244) -/

/-- Settles O22: an instruction is held or answered, and `hold` and `answer` write nothing but the held commands and the
response port. -/
theorem everyInstructionOnlyAnswersOrIsHeld : Obligations.EveryInstructionOnlyAnswersOrIsHeld := by
  intro i s
  obtain ⟨hb, -, h⟩ | ⟨c, r, h⟩ := exec_cases i s
  · exact ⟨s.hold i, h, rfl, fun hne => absurd hb hne, .inr ⟨rfl, rfl⟩⟩
  · exact ⟨s.answer i c r, h, rfl, fun _ => rfl, .inl ⟨rfl, _, rfl, rfl⟩⟩

/-- No rule reads the response port. -/
theorem ownResponse_answer (s : State) (i : Instr) (c : RespCode) (r : Result) (j : Instr) :
    ownResponse (s.answer i c r) j = ownResponse s j := by
  cases j <;> rfl

theorem portResponse_answer (s : State) (i : Instr) (c : RespCode) (r : Result) (j : Instr) :
    portResponse (s.answer i c r) j = portResponse s j := by
  simp only [portResponse, State.answer_state, ownResponse_answer]

theorem exec_after_answer {s : State} (hs : s.state ≠ .building) (i : Instr) (c : RespCode) (r : Result) (j : Instr) :
    exec j (s.answer i c r) = .next ((s.answer i c r).answer j (portResponse s j).1 (portResponse s j).2) := by
  rw [← portResponse_answer s i c r j]
  exact exec_eq_answer_portResponse (.inr hs)

/-- Settles O23: out of BUILDING the first instruction writes the response port alone, which the response to the second
does not depend on. -/
theorem responsesDoNotDependOnOrder : Obligations.ResponsesDoNotDependOnOrder := by
  intro i j s t hs h
  cases (exec_eq_answer_portResponse (.inr hs)).symm.trans h
  exact ⟨_, exec_eq_answer_portResponse (.inr hs), exec_after_answer hs i _ _ j⟩

/-! ## FAILED (R31, R213) -/

/-- An instruction leaves FAULT alone. -/
theorem exec_fault {i : Instr} {s t : State} (h : exec i s = .next t) : t.fault = s.fault := by
  obtain ⟨-, -, h'⟩ | ⟨_, _, h'⟩ := exec_cases i s <;> cases h'.symm.trans h <;> rfl

/-- Once the build has ended, only a release of an asserted reset writes FAULT. -/
theorem step_fault_of_build_ended {s t : State} (hs : s.state ≠ .building) (hr : s.resetIn = false)
    (h : step s = .next t) : t.fault = s.fault := by
  obtain ⟨-, ⟨-, rfl⟩ | ⟨e, rest, -, he⟩⟩ := step_cases h
  · rw [tick_idle (.inr hs), State.quiet_fault]
  · obtain ⟨-, rfl⟩ | ⟨-, rfl⟩ | ⟨-, hr', -⟩ | ⟨-, -, rfl⟩ | ⟨_, -, rfl⟩ | ⟨_, -, -, rfl⟩ | ⟨_, -, -, hx⟩ :=
      stepInput_cases he
    · rw [tick_idle (s := { s with inputs := rest }) (.inr hs), State.quiet_fault]
    · rfl
    · exact nomatch hr.symm.trans hr'
    · rfl
    · rfl
    · rfl
    · exact exec_fault (s := { s with inputs := rest }) hx

/-- STATE stays FAILED out of reset: it moves out of BUILDING and at a release of an asserted reset alone (R31). -/
theorem step_state_of_failed {s t : State} (hs : s.state = .failed) (hr : s.resetIn = false)
    (h : step s = .next t) : t.state = .failed := by
  obtain hsame | ⟨hb, -⟩ | ⟨hr', -⟩ := stateMovesOnlyAsSpecified s t h
  · exact hsame.trans hs
  · exact nomatch hs.symm.trans hb
  · exact nomatch hr.symm.trans hr'

/-- Settles O20: the response order of R219, the fields of the STATUS word, and what a step can write in FAILED. -/
theorem failedServesNothing : Obligations.FailedServesNothing := by
  refine ⟨fun i s hs hi => exec_failed hi hs, fun s hs => ?_, fun s t hs hr h => ?_⟩
  · obtain ⟨hstate, -, hfault, -⟩ := s.statusWord_fields
    exact ⟨s.statusWord, exec_of_atOnce rfl s, hstate.trans (congrArg BlockState.code hs), hfault⟩
  · exact ⟨step_state_of_failed hs hr h, step_fault_of_build_ended (by simp [hs]) hr h⟩

/-! ## Raising a build fault (R211) -/

/-- The step after a fault was found raises it and answers the held commands in FAILED. -/
theorem tick_found {s : State} {f : BuildFault} (hr : s.resetIn = false) (hs : s.state = .building)
    (hf : s.found = some f) : s.tick = (s.raiseBuildFault f).releaseHeld := by
  have hstep := buildStep_found hf
  have hend : s.buildStep.state ≠ .building := by rw [hstep]; nofun
  rw [tick_end hr hs hend, hstep]

/-- Settles O34, from the registers that `raiseBuildFault` writes and those it leaves; the codes are those of R211. -/
theorem buildFaultIsRaisedInOneStep : Obligations.BuildFaultIsRaisedInOneStep := by
  refine ⟨fun s t f hr hs hf hin h => ?_, rfl, rfl⟩
  obtain ⟨hwf, -⟩ := step_cases h
  cases (step_idle hwf hin).symm.trans h
  rw [tick_found hr hs hf]
  exact ⟨rfl, rfl, rfl, rfl, rfl, rfl, rfl, rfl, rfl⟩

end Sys2Proof.Machine
end

section
/-! PROOFS. Reset and the build under way (spec/70_reset_and_hazards.md): what the steps that assert and release reset
give, what becomes of the commands held while BUILDING, and that every build ends with BUILD's outcome. -/

namespace Sys2Proof.Machine

open Sys2Proof

/-! ## Asserting and releasing reset (R240, R241, R247) -/

section reset

variable {s : State} {rest : List Input} (hw : s.cfg.wf = true)
include hw

theorem step_assertReset (hi : s.inputs = .assertReset :: rest) :
    step s = .next { s with inputs := rest }.assertReset :=
  step_event hw hi

theorem step_releaseReset (hr : s.resetIn = true) (hi : s.inputs = .releaseReset :: rest) :
    step s = .next { s with inputs := rest }.releaseReset :=
  (step_event hw hi).trans (stepInput_releaseReset hr)

theorem step_request_dropped (hr : s.resetIn = true) {p : PortWord} (hi : s.inputs = .request p :: rest) :
    step s = .next { s with inputs := rest }.quiet :=
  (step_event hw hi).trans (stepInput_request_dropped (s := { s with inputs := rest }) hr p)

theorem step_driveCfgVersion {v : Version} (hi : s.inputs = .driveCfgVersion v :: rest) :
    step s = .next { s with cfgInput := v, inputs := rest, answers := [] } :=
  step_event hw hi

end reset

/-- A release puts the whole build of the configuration at the CFG_VERSION input before the block (R241, R247). -/
theorem resume_releaseReset (s : State) : s.releaseReset.resume = build s.cfg s.cfgInput :=
  resume_validate rfl rfl

/-- Settles O27, from the state that each of the three steps gives. -/
theorem resetDropsEverything : Obligations.ResetDropsEverything := by
  refine ⟨fun s p rest hw hr hi => step_request_dropped hw hr hi, fun s rest hw hi => ?_, fun s rest hw hr hi => ?_⟩
  · exact ⟨_, step_assertReset hw hi, rfl, rfl, rfl, rfl, rfl⟩
  · exact ⟨_, step_releaseReset hw hr hi, rfl, resume_releaseReset _, rfl, rfl⟩

/-- Settles O28, from the registers that `releaseReset` writes and those it leaves. -/
theorem resetReleaseSamplesTheVersion : Obligations.ResetReleaseSamplesTheVersion := by
  refine ⟨fun s rest hw hr hi => ⟨_, step_releaseReset hw hr hi, ?_⟩, fun s v rest hw hi => step_driveCfgVersion hw hi⟩
  exact ⟨rfl, rfl, rfl, rfl, rfl, rfl, rfl, rfl, rfl, rfl, rfl, rfl⟩

/-- Settles O33: the build stands at its start, so its outcome to come is BUILD's. -/
theorem releaseHasInvariant : Obligations.ReleaseHasInvariant := fun _ h => h.inv

/-! ## The held commands (R224, R244) -/

/-- The build does not touch the held commands. -/
theorem buildStep_held (s : State) : s.buildStep.held = s.held := by
  obtain ⟨f, -, h⟩ | ⟨-, f, h⟩ | ⟨-, p, a, j, h⟩ | ⟨-, -, T, -, h⟩ := buildStep_cases s <;> rw [h] <;> rfl

/-- What stands at the response port when `s` answers `i`. -/
def State.portAnswer (s : State) (i : Instr) : Answer :=
  { request := i, resp := (portResponse s i).1, result := (portResponse s i).2 }

/-- Out of BUILDING every instruction is answered. -/
theorem exec_eq_portAnswer {s : State} (hs : s.state ≠ .building) (i : Instr) :
    exec i s = .next { s with answers := [s.portAnswer i] } :=
  exec_eq_answer_portResponse (.inr hs)

/-- Out of BUILDING the release answers each held command once, in the order of presentation. -/
theorem answerHeld_eq_map {s : State} (hs : s.state ≠ .building) (l : List Instr) :
    answerHeld s l = l.map s.portAnswer := by
  induction l with
  | nil => rfl
  | cons i rest ih => rw [answerHeld, exec_eq_portAnswer hs, ih]; rfl

/-- No rule reads the held commands or the response port. -/
theorem portAnswer_releaseHeld (s : State) (i : Instr) : s.releaseHeld.portAnswer i = s.portAnswer i := by
  cases i <;> rfl

/-- A step of the block's own work that stays in BUILDING leaves the held commands held and answers nothing. -/
theorem tick_held_of_building {s : State} (hr : s.resetIn = false) (hs : s.state = .building)
    (ht : s.tick.state = .building) : s.tick.held = s.held ∧ s.tick.answers = [] := by
  obtain ⟨hidle, -⟩ | ⟨-, -, -, h⟩ | ⟨-, -, hend, h⟩ := tick_cases s
  · simp [hr, hs] at hidle
  · rw [h]; exact ⟨buildStep_held s, rfl⟩
  · rw [h] at ht; exact absurd ht hend

/-- A step that ends the build answers every held command by its rule in the new state, and holds none. -/
theorem tick_held_of_end {s : State} (hr : s.resetIn = false) (hs : s.state = .building)
    (ht : s.tick.state ≠ .building) : s.tick.held = [] ∧ s.tick.answers = s.held.map s.tick.portAnswer := by
  obtain ⟨hidle, -⟩ | ⟨-, -, hgo, h⟩ | ⟨-, -, hend, h⟩ := tick_cases s
  · simp [hr, hs] at hidle
  · rw [h] at ht; exact absurd hgo ht
  · rw [h]
    refine ⟨rfl, ?_⟩
    rw [State.releaseHeld_answers, answerHeld_eq_map hend, buildStep_held, funext (portAnswer_releaseHeld _)]

/-- Where nothing is to come, or a tick is, a step is the block's own work. -/
theorem step_own_work {s t : State} (hi : s.inputs = [] ∨ ∃ rest, s.inputs = .tick :: rest) (h : step s = .next t) :
    ∃ ins, t = { s with inputs := ins }.tick := by
  obtain ⟨hw, -⟩ := step_cases h
  obtain hi | ⟨rest, hi⟩ := hi
  · cases (step_idle hw hi).symm.trans h
    exact ⟨s.inputs, rfl⟩
  · cases (step_event hw hi).symm.trans h
    exact ⟨rest, rfl⟩

/-- Settles O19: the hold rule of `exec`, and what the block's own work and an assertion of reset do to what is held. -/
theorem holdUntilTheBuildEnds : Obligations.HoldUntilTheBuildEnds := by
  refine ⟨fun i s hs hi => exec_building hi hs, fun i s hi => ⟨_, _, exec_of_atOnce hi s⟩, ?_, ?_⟩
  · intro s t _ hr hs hi h
    obtain ⟨ins, rfl⟩ := step_own_work hi h
    refine ⟨tick_held_of_building (s := { s with inputs := ins }) hr hs, fun hend => ?_⟩
    obtain ⟨hheld, hans⟩ := tick_held_of_end (s := { s with inputs := ins }) hr hs hend
    rw [hans]
    refine ⟨hheld, by simp [State.portAnswer, Function.comp_def], fun a ha => ?_⟩
    obtain ⟨i, -, rfl⟩ := List.mem_map.mp ha
    exact exec_eq_portAnswer hend i
  · intro s t rest hi h
    obtain ⟨hw, -⟩ := step_cases h
    cases (step_assertReset hw hi).symm.trans h
    exact ⟨rfl, rfl⟩

/-! ## Every build ends (R121, R140, R242) -/

theorem buildFuel_found {s : State} {f : BuildFault} (h : s.found = some f) : s.buildFuel = 1 := by
  simp [State.buildFuel, h]

section fuel

variable {s : State} (h : s.found = none)
include h

theorem buildFuel_validate (hp : s.phase = .validate) : s.buildFuel = s.cfg.versions.length + 5 := by
  simp [State.buildFuel, h, hp]

theorem buildFuel_first (hp : s.phase = .first) : s.buildFuel = s.cfg.versions.length + 4 := by
  simp [State.buildFuel, h, hp]

theorem buildFuel_fold (hp : s.phase = .fold) : s.buildFuel = s.cfg.versions.length - s.verIdx + 3 := by
  simp [State.buildFuel, h, hp]

theorem buildFuel_finish (hp : s.phase = .finish) : s.buildFuel = 2 := by
  simp [State.buildFuel, h, hp]

end fuel

theorem buildFuel_bounds (s : State) : 1 ≤ s.buildFuel ∧ s.buildFuel ≤ s.cfg.versions.length + 5 := by
  cases h : s.found with
  | some f => have := buildFuel_found h; omega
  | none =>
    cases hp : s.phase with
    | validate => have := buildFuel_validate h hp; omega
    | first => have := buildFuel_first h hp; omega
    | fold => have := buildFuel_fold h hp; omega
    | finish => have := buildFuel_finish h hp; omega

/-- Each step of the build that does not end it brings the end nearer. -/
theorem buildStep_buildFuel {s : State} (hb : s.buildStep.state = .building) :
    s.buildStep.buildFuel < s.buildFuel := by
  cases h : s.found with
  | some f => rw [buildStep_found h] at hb; exact nomatch hb
  | none =>
    cases hp : s.phase with
    | validate =>
      rw [buildStep_validate h hp, buildFuel_validate h hp]
      obtain ⟨f, -, h'⟩ | ⟨-, h'⟩ := buildValidate_cases s <;> rw [h']
      · rw [buildFuel_found (s := s.buildFound f) rfl]; omega
      · rw [buildFuel_first (s := s.buildNext .first [] 0) h rfl, State.buildNext_cfg]; omega
    | first =>
      rw [buildStep_first h hp, buildFuel_first h hp]
      obtain ⟨f, -, h'⟩ | ⟨a, -, h'⟩ := buildFirst_cases s <;> rw [h']
      · rw [buildFuel_found (s := s.buildFound f) rfl]; omega
      · rw [buildFuel_fold (s := s.buildNext .fold a 1) h rfl, State.buildNext_cfg]; omega
    | fold =>
      rw [buildStep_fold h hp, buildFuel_fold h hp]
      obtain ⟨-, h'⟩ | ⟨v, hv, -, ⟨f, -, h'⟩ | ⟨a, -, h'⟩⟩ := buildFold_cases s <;> rw [h']
      · rw [buildFuel_finish (s := s.buildNext .finish s.acc s.verIdx) h rfl]; omega
      · rw [buildFuel_found (s := s.buildFound f) rfl]; omega
      · obtain ⟨hlt, -⟩ := List.getElem?_eq_some_iff.mp hv
        rw [buildFuel_fold (s := s.buildNext .fold a (s.verIdx + 1)) h rfl, State.buildNext_cfg,
          State.buildNext_verIdx]
        omega
    | finish =>
      rw [buildStep_finish h hp] at hb ⊢
      obtain ⟨f, -, h'⟩ | ⟨T, -, h'⟩ := buildFinish_cases s <;> rw [h'] at hb ⊢
      · rw [buildFuel_found (s := s.buildFound f) rfl, buildFuel_finish h hp]; omega
      · exact nomatch hb

/-- The block is at work on its build and nothing arrives. -/
structure State.AtBuild (s : State) : Prop where
  cfgOk : s.cfg.wf = true
  out   : s.resetIn = false
  state : s.state = .building
  idle  : s.inputs = []

/-- The build has ended in `t` with the outcome `o` of BUILD (R136, R211). -/
def State.HasOutcome (t : State) : Except BuildFault Tables → Prop
  | .ok T => t.state = .ready ∧ t.fault = none ∧ t.tables = T
  | .error f => t.state = .failed ∧ t.fault = some f ∧ t.count = 0

theorem run_succ {s s' : State} (h : step s = .next s') (n : Nat) :
    Sys2Proof.core.run (n + 1) s = Sys2Proof.core.run n s' := by
  have hstep : Sys2Proof.core.step s = .next s' := h
  simp only [Host.Core.run, hstep]

/-- One step of the block at work on its build: it stays at it, nearer to the end and with the same outcome to come, or
the build ends with that outcome. -/
theorem State.AtBuild.tick {s : State} (h : s.AtBuild) :
    (s.tick.AtBuild ∧ s.tick.resume = s.resume ∧ s.tick.buildFuel < s.buildFuel) ∨ s.tick.HasOutcome s.resume := by
  obtain ⟨hgo, hres⟩ | ⟨f, hf, hs⟩ | ⟨T, hT, hs⟩ := buildStep_outcome s
  · have hb : s.buildStep.state = .building := by
      obtain ⟨_, _, _, _, hgo⟩ := hgo
      rw [hgo]; exact h.state
    rw [tick_building h.out h.state hb]
    refine .inl ⟨?_, hres, buildStep_buildFuel hb⟩
    obtain ⟨_, _, _, _, hgo⟩ := hgo
    rw [hgo]
    exact ⟨h.cfgOk, h.out, h.state, h.idle⟩
  · rw [tick_end h.out h.state (by simp [hs]), hs, hf]
    exact .inr ⟨rfl, rfl, rfl⟩
  · rw [tick_end h.out h.state (by simp [hs]), hs, hT]
    exact .inr ⟨rfl, rfl, rfl⟩

/-- A build under way ends with its outcome to come, within the steps it needs at most. -/
theorem State.AtBuild.ends {s : State} (h : s.AtBuild) :
    ∃ n ≤ s.buildFuel, ∃ t, Sys2Proof.core.run n s = .next t ∧ t.HasOutcome s.resume := by
  have hstep : step s = .next s.tick := step_idle h.cfgOk h.idle
  obtain ⟨hgo, hres, hlt⟩ | hend := h.tick
  · obtain ⟨n, hn, t, hrun, ht⟩ := hgo.ends
    exact ⟨n + 1, by omega, t, (run_succ hstep n).trans hrun, hres ▸ ht⟩
  · exact ⟨1, (buildFuel_bounds s).1, s.tick, run_succ hstep 0, hend⟩
termination_by s.buildFuel

/-- Settles O37: by the invariant the outcome to come is BUILD's, and the build under way ends with it. -/
theorem buildEndsWithTheSpecifiedOutcome : Obligations.BuildEndsWithTheSpecifiedOutcome := by
  intro s hinv hr hs hi
  have hat : s.AtBuild := ⟨hinv.cfgOk, hr, hs, hi⟩
  obtain ⟨n, hn, t, hrun, ht⟩ := hat.ends
  obtain ⟨-, hfuel⟩ := buildFuel_bounds s
  rw [hinv.building hr hs] at ht
  refine ⟨n, t, hn.trans hfuel, hrun, fun T hT => ?_, fun f hf => ?_⟩
  · rw [hT] at ht; exact ht
  · rw [hf] at ht; exact ht

end Sys2Proof.Machine
end
